-- ==== Sys2Proof/Word.lean ====
section
/-! DEFINITION. The register word, the byte, and the plain readings of a 32-bit pattern
(00_scope.md R12, R13). -/

namespace Sys2Proof

/-- A register or bus word, REG_W = 32 bits (00_scope.md R10, R12). -/
abbrev Word := BitVec 32

/-- A byte of the record buffer. -/
abbrev Byte := BitVec 8

/-- `uval(w)`: the pattern read as unsigned (00_scope.md R13). -/
abbrev uval (w : Word) : Nat := w.toNat

/-- `s32(w)`: the signed reading of the pattern (00_scope.md R13). -/
abbrev s32 (w : Word) : Int := w.toInt

/-- `u32(x)`: the pattern of an integer, `x mod 2^32` (00_scope.md R13). -/
abbrev u32 (x : Int) : Word := BitVec.ofInt 32 x

end Sys2Proof
end

