-- ==== Sys2Proof/Syntax.lean ====
section
/-! DEFINITION. The ten commands of the opcode map (30_encoding.md R112), one constructor per row
of spec/opcode_table.json. An operand is the unsigned byte A (30_encoding.md R111). -/

namespace Sys2Proof

/-- A command of LTD-CORE. -/
inductive Instr where
  /-- NOP (45_control.md R270). -/
  | nop
  /-- CUR_RESET (40_bitcursor.md R145). -/
  | curReset
  /-- CUR_READ n (40_bitcursor.md R146). -/
  | curRead (n : Nat)
  /-- SEXT bits (41_fieldcodec.md R160). -/
  | sext (bits : Nat)
  /-- DECODE (42_packetdecoder.md R181). -/
  | decode
  /-- DECODE_PUSH (43_batchdecoder.md R211). -/
  | decodePush
  /-- FILTER_BEGIN (44_filterpipeline.md R231). -/
  | filterBegin
  /-- FILTER_PUSH (44_filterpipeline.md R233). -/
  | filterPush
  /-- FILTER_END (44_filterpipeline.md R240). -/
  | filterEnd
  /-- SOFT_RESET (45_control.md R272). -/
  | softReset
  deriving DecidableEq, Repr

end Sys2Proof
end

