-- ==== Sys2Proof/WellFormed.lean ====
section
/-! DEFINITION. Which commands a command word can carry: the operand is one byte
(30_encoding.md R110, R111). An operand outside a command's legal range is still well formed, since
the word is legal and ends OPERAND_RANGE (30_encoding.md R115). -/

namespace Sys2Proof

/-- The operand fits the byte A (30_encoding.md R111: "any value 0..255 is encodable"). -/
def Instr.wellFormed : Instr → Bool
  | .nop => true
  | .curReset => true
  | .curRead n => decide (n < 256)
  | .sext bits => decide (bits < 256)
  | .decode => true
  | .decodePush => true
  | .filterBegin => true
  | .filterPush => true
  | .filterEnd => true
  | .softReset => true

/-- `i` is a command some word carries. -/
abbrev Instr.WellFormed (i : Instr) : Prop := i.wellFormed = true

end Sys2Proof
end

