-- ==== Sys2Proof/Decode.lean ====
section
/-! DEFINITION. Decoding a command word, total and rejecting by name, and the encoder
(30_encoding.md R110 to R117). -/

namespace Sys2Proof

/-- Field OP of a command word, bits 7..0 (30_encoding.md R110). -/
def opField (w : Word) : BitVec 8 := w.extractLsb' 0 8

/-- Field A of a command word, bits 15..8 (30_encoding.md R110). -/
def aField (w : Word) : BitVec 8 := w.extractLsb' 8 8

/-- Field RSV of a command word, bits 31..16 (30_encoding.md R110). -/
def rsvField (w : Word) : BitVec 16 := w.extractLsb' 16 16

/-- The ten opcodes of the map (30_encoding.md R112). -/
inductive Opcode where
  | nop | curReset | curRead | sext | decode | decodePush | filterBegin | filterPush | filterEnd
  | softReset
  deriving DecidableEq, Repr

/-- Why a command word is not a command (30_encoding.md R113, R114). -/
inductive DecodeError where
  /-- OP is not in the map. -/
  | unknownOpcode
  /-- RSV is not zero. -/
  | reservedNotZero
  /-- A is not zero on a command that takes no operand. -/
  | operandNotAllowed
  deriving DecidableEq, Repr

/-- The OP byte of an opcode (30_encoding.md R112). -/
def Opcode.code : Opcode → BitVec 8
  | .nop => 0x00#8
  | .curReset => 0x01#8
  | .curRead => 0x02#8
  | .sext => 0x03#8
  | .decode => 0x10#8
  | .decodePush => 0x11#8
  | .filterBegin => 0x20#8
  | .filterPush => 0x21#8
  | .filterEnd => 0x22#8
  | .softReset => 0xFF#8

/-- The opcode an OP byte names, if any (30_encoding.md R112, R114). -/
def Opcode.ofByte (b : BitVec 8) : Option Opcode :=
  if b = 0x00#8 then some .nop
  else if b = 0x01#8 then some .curReset
  else if b = 0x02#8 then some .curRead
  else if b = 0x03#8 then some .sext
  else if b = 0x10#8 then some .decode
  else if b = 0x11#8 then some .decodePush
  else if b = 0x20#8 then some .filterBegin
  else if b = 0x21#8 then some .filterPush
  else if b = 0x22#8 then some .filterEnd
  else if b = 0xFF#8 then some .softReset
  else none

/-- Only CUR_READ and SEXT take the operand A (30_encoding.md R111). -/
def Opcode.takesOperand : Opcode → Bool
  | .nop => false
  | .curReset => false
  | .curRead => true
  | .sext => true
  | .decode => false
  | .decodePush => false
  | .filterBegin => false
  | .filterPush => false
  | .filterEnd => false
  | .softReset => false

/-- The command of an opcode with operand `a` (30_encoding.md R112). -/
def Opcode.command (a : Nat) : Opcode → Instr
  | .nop => .nop
  | .curReset => .curReset
  | .curRead => .curRead a
  | .sext => .sext a
  | .decode => .decode
  | .decodePush => .decodePush
  | .filterBegin => .filterBegin
  | .filterPush => .filterPush
  | .filterEnd => .filterEnd
  | .softReset => .softReset

/-- Decoding, with the checks in the order of 30_encoding.md R113. -/
def decode (w : Word) : Except DecodeError Instr :=
  match Opcode.ofByte (opField w) with
  | none => .error .unknownOpcode
  | some op =>
    if rsvField w ≠ 0#16 then .error .reservedNotZero
    else if aField w ≠ 0#8 ∧ op.takesOperand = false then .error .operandNotAllowed
    else .ok (op.command (aField w).toNat)

/-- The opcode of a command (30_encoding.md R112). -/
def Instr.opcode : Instr → Opcode
  | .nop => .nop
  | .curReset => .curReset
  | .curRead _ => .curRead
  | .sext _ => .sext
  | .decode => .decode
  | .decodePush => .decodePush
  | .filterBegin => .filterBegin
  | .filterPush => .filterPush
  | .filterEnd => .filterEnd
  | .softReset => .softReset

/-- The operand byte of a command, 0 where it takes none (30_encoding.md R111). -/
def Instr.operand : Instr → BitVec 8
  | .nop => 0#8
  | .curReset => 0#8
  | .curRead n => BitVec.ofNat 8 n
  | .sext bits => BitVec.ofNat 8 bits
  | .decode => 0#8
  | .decodePush => 0#8
  | .filterBegin => 0#8
  | .filterPush => 0#8
  | .filterEnd => 0#8
  | .softReset => 0#8

/-- The word of a command: RSV = 0, then A, then OP (30_encoding.md R110, R112). -/
def encode (i : Instr) : Word := 0#16 ++ i.operand ++ i.opcode.code

/-- The instruction the decoder reads from the low `nbits` bits of `w`, every bit above them 0.
A command is one 32-bit word (30_encoding.md R117), so no longer one is read. -/
def decodeTableWord (nbits w : Nat) : Option Instr :=
  if nbits ≤ 32 then
    match decode (BitVec.ofNat 32 (w % 2 ^ nbits)) with
    | .ok i => some i
    | .error _ => none
  else none

end Sys2Proof
end

