-- ==== Sys2Proof/Config.lean ====
section
/-! DEFINITION. What is fixed for one LTD-CORE: the two OPEN parameters, the constants of the
register map, and the free values the spec leaves open. -/

namespace Sys2Proof

/-- The two OPEN parameters a model of LTD-CORE takes (00_scope.md R10, R11). They are carried in
State, so that a statement over all states is a statement over all their values (log entry 6). -/
structure Config where
  /-- `N_EXCL`: the number of exclusion-CAM entries. -/
  nExcl : Nat
  /-- `P_PREV_ON_FINAL`: whether the time baseline moves only on final acceptance. -/
  prevOnFinal : Bool
  deriving DecidableEq, Repr

/-- The legal values of the parameters: `N_EXCL` is 1..64 (00_scope.md R10). -/
abbrev Config.Legal (c : Config) : Prop := 1 ≤ c.nExcl ∧ c.nExcl ≤ 64

/-- The defaults the spec recommends (00_scope.md R10). -/
def Config.recommended : Config where
  nExcl := 16
  prevOnFinal := false

/-- FREE VALUE: byte `j` of RBUF after hardware reset number `n` (10_state.md R42,
70_reset_and_hazards.md R342: "an arbitrary value"). No body, so nothing can rest on what it is
(log entry 4). -/
opaque Config.freeRecordByte (n j : Nat) : Byte

/-- The 42 free bytes RBUF holds after hardware reset number `n` (log entry 4). -/
def Config.freeRecord (n : Nat) : Vector Byte 42 :=
  let f := Config.freeRecordByte n
  #v[
    f 0, f 1, f 2, f 3, f 4, f 5, f 6,
    f 7, f 8, f 9, f 10, f 11, f 12, f 13,
    f 14, f 15, f 16, f 17, f 18, f 19, f 20,
    f 21, f 22, f 23, f 24, f 25, f 26, f 27,
    f 28, f 29, f 30, f 31, f 32, f 33, f 34,
    f 35, f 36, f 37, f 38, f 39, f 40, f 41]

/-- The constant ID reads (10_state.md R24). -/
def Config.idWord : Word := 0x4C544443#32

/-- The constant VERSION reads (10_state.md R24). -/
def Config.versionWord : Word := 0x00000001#32

/-- The reset value of VLIM_PRESS (10_state.md R37). -/
def Config.vlimPressReset : Word := 0x00100000#32

/-- The reset value of VLIM_LAT (10_state.md R37). -/
def Config.vlimLatReset : Word := 0x35A4E900#32

/-- The reset value of VLIM_LON (10_state.md R37). -/
def Config.vlimLonReset : Word := 0x6B49D200#32

/-- The reset value of VLIM_TEMP (10_state.md R37). -/
def Config.vlimTempReset : Word := 0x000186A0#32

end Sys2Proof
end

