-- ==== Sys2Proof/Machine/State.lean ====
section
/-! DEFINITION. The state of LTD-CORE (10_state.md R20), its reset value (R62), and the reasons a
step can stop. -/

namespace Sys2Proof.Machine

/-- The result codes, values of RESULT.CODE (60_exceptions.md R300). Codes 9..15 are never
produced (log entry 9). -/
inductive ResultCode where
  | ok | illegalCmd | operandRange | outOfRange | wrongLength | implausible | noPass | notValid
  | seqOverflow
  deriving DecidableEq, Repr

/-- The verdict of the latest push of the pass, STATUS.VERDICT (10_state.md R29). Values 5..7 are
never produced (log entry 9). -/
inductive Verdict where
  /-- NONE: no push since FILTER_BEGIN or reset. -/
  | noPush
  | accept | dropTime | dropRange | dropManual
  deriving DecidableEq, Repr

/-- The bounds of one channel (10_state.md R51). -/
structure ChanBound where
  /-- RCTL: bit 0 MIN_EN, bit 1 MAX_EN. -/
  ctl : BitVec 2
  /-- RMIN, read `s32`. -/
  min : Word
  /-- RMAX, read `s32`. -/
  max : Word
  deriving DecidableEq, Repr

/-- One entry of the exclusion CAM (10_state.md R55). -/
structure CamEntry where
  /-- ECTL: bit 0 V. -/
  ctl : BitVec 1
  /-- ELO, unsigned. -/
  lo : Word
  /-- EHI, unsigned. -/
  hi : Word
  deriving DecidableEq, Repr

/-- What the outside world does to the block: the host's accesses (20_memory.md R70 to R75) and the
platform's hardware reset (70_reset_and_hazards.md R340). `width` is the access width in bits; only
32 is legal (20_memory.md R73, R77). -/
inductive HostEvent where
  | read (addr : BitVec 12) (width : Nat)
  | write (addr : BitVec 12) (width : Nat) (data : Word)
  | hardReset
  deriving DecidableEq, Repr

/-- What the bus answers to an access: the data of a read, nothing for a write, and the error
indication of 20_memory.md R77 (log entry 3). -/
structure BusResponse where
  data : Option Word
  error : Bool
  deriving DecidableEq, Repr

/-- The model's own view of the outside world: no state of the block (log entries 1 and 3). -/
structure BusPort where
  /-- What the outside world does next, in issue order (20_memory.md R72). -/
  pending : List HostEvent
  /-- The response to the latest access. -/
  response : Option BusResponse
  deriving DecidableEq, Repr

/-- The architectural state of LTD-CORE (10_state.md R20: "exactly"), then the model's own fields
`bus`, `config` and `resets` (log entries 1, 3, 4 and 6). -/
structure State where
  /-- RBUF bytes 0..41 (R42). -/
  rbuf : Vector Byte 42
  /-- RLEN (R33). -/
  rlen : BitVec 8
  /-- CUR_LEN, 0..42 (R34; log entry 8). -/
  curLen : Fin 43
  /-- CUR_POS, 0..336 (R34; log entry 8). -/
  curPos : Fin 337
  /-- CUR_DATA (R35). -/
  curData : Word
  /-- SX_IN (R36). -/
  sxIn : Word
  /-- SX_OUT (R36). -/
  sxOut : Word
  /-- VLIM_PRESS (R37). -/
  vlimPress : Word
  /-- VLIM_LAT (R37). -/
  vlimLat : Word
  /-- VLIM_LON (R37). -/
  vlimLon : Word
  /-- VLIM_TEMP (R37). -/
  vlimTemp : Word
  /-- PKT0..PKT19 (R40). -/
  pkt : Vector Word 20
  /-- STATUS.PKT_VALID (R27). -/
  pktValid : Bool
  /-- STATUS.PKT_PUSHED (R27). -/
  pktPushed : Bool
  /-- STATUS.DIAG_DUMMY (R28). -/
  diagDummy : Bool
  /-- STATUS.IMPL_WHY (R28). -/
  implWhy : BitVec 4
  /-- STATUS.PASS_ACTIVE (R29). -/
  passActive : Bool
  /-- STATUS.PREV_VALID (R29). -/
  prevValid : Bool
  /-- STATUS.VERDICT (R29). -/
  verdict : Verdict
  /-- CTRL (R31). -/
  ctrl : BitVec 5
  /-- MAXJUMP, read `s32` (R32). -/
  maxJump : Word
  /-- RCTL, RMIN, RMAX of the 18 channels (R50, R51). -/
  chan : Vector ChanBound 18
  /-- ECTL, ELO, EHI; only entries `k < N_EXCL` exist (R55; log entry 7). -/
  cam : Vector CamEntry 64
  /-- PREV_TIME (R38). -/
  prevTime : BitVec 24
  /-- SEQ_IDX (R38). -/
  seqIdx : Word
  /-- LAST_DELTA, read `s32` (R39). -/
  lastDelta : Word
  /-- ACC_COUNT (R39). -/
  accCount : Word
  /-- DROP_TIME (R39). -/
  dropTime : Word
  /-- DROP_RANGE (R39). -/
  dropRange : Word
  /-- DROP_MANUAL (R39). -/
  dropManual : Word
  /-- DEC_OK (R39). -/
  decOk : Word
  /-- DEC_FAIL (R39). -/
  decFail : Word
  /-- RESULT.CODE (R26). -/
  result : ResultCode
  /-- ERR (R30). -/
  err : BitVec 10
  /-- The model's own: what the outside world does next and what the bus last answered. -/
  bus : BusPort
  /-- The model's own: the OPEN parameters of this block. -/
  config : Config
  /-- The model's own: the number of hardware resets so far, which selects the free RBUF bytes. -/
  resets : Nat
  deriving DecidableEq, Repr

/-- Reasons for the machine to stop with a fault: none. A failing command ends with a result code
and the block goes on (60_exceptions.md R305), a bad access gets an error response (20_memory.md
R77), and every command terminates (70_reset_and_hazards.md R361). -/
inductive Fault where
  deriving DecidableEq, Repr

/-- Reasons for having no meaning. -/
inductive Refusal where
  /-- Raised by an arm of `exec` whose command has no meaning yet. Safe. No arm raises it. -/
  | notModelled (mnemonic : String)
  deriving DecidableEq, Repr

/-- A channel with no bound (10_state.md R62). -/
def ChanBound.reset : ChanBound where
  ctl := 0#2
  min := 0#32
  max := 0#32

/-- An unused CAM entry (10_state.md R62). -/
def CamEntry.reset : CamEntry where
  ctl := 0#1
  lo := 0#32
  hi := 0#32

/-- Every register at its reset value (10_state.md R62), with the record buffer given: after a
hardware reset its bytes are arbitrary, after SOFT_RESET they are kept. -/
def State.resetWith (config : Config) (rbuf : Vector Byte 42) : State where
  rbuf := rbuf
  rlen := 0#8
  curLen := 0
  curPos := 0
  curData := 0#32
  sxIn := 0#32
  sxOut := 0#32
  vlimPress := Config.vlimPressReset
  vlimLat := Config.vlimLatReset
  vlimLon := Config.vlimLonReset
  vlimTemp := Config.vlimTempReset
  pkt := Vector.replicate 20 0#32
  pktValid := false
  pktPushed := false
  diagDummy := false
  implWhy := 0#4
  passActive := false
  prevValid := false
  verdict := .noPush
  ctrl := 0#5
  maxJump := 0#32
  chan := Vector.replicate 18 ChanBound.reset
  cam := Vector.replicate 64 CamEntry.reset
  prevTime := 0#24
  seqIdx := 0#32
  lastDelta := 0#32
  accCount := 0#32
  dropTime := 0#32
  dropRange := 0#32
  dropManual := 0#32
  decOk := 0#32
  decFail := 0#32
  result := .ok
  err := 0#10
  bus := ⟨[], none⟩
  config := config
  resets := 0

/-- The machine right after its first hardware reset: the registers of 10_state.md R62, RBUF free
(R342), the parameters at the spec's defaults (log entry 6), and no access issued yet. -/
def State.reset : State := State.resetWith Config.recommended (Config.freeRecord 0)

end Sys2Proof.Machine
end

