-- ==== Sys2Proof/Machine/Flags.lean ====
section
/-! DEFINITION. Every flag of the block: the STATUS word (10_state.md R27 to R29), the ERR bits
(R30), the CTRL switches (R31), the enables of a channel and of a CAM entry (R51, R55), and the
FlagSet of a packet (R41, 41_fieldcodec.md R165). -/

namespace Sys2Proof.Machine

/-- The value of RESULT.CODE for a code (60_exceptions.md R300). -/
def ResultCode.code : ResultCode → BitVec 4
  | .ok => 0#4
  | .illegalCmd => 1#4
  | .operandRange => 2#4
  | .outOfRange => 3#4
  | .wrongLength => 4#4
  | .implausible => 5#4
  | .noPass => 6#4
  | .notValid => 7#4
  | .seqOverflow => 8#4

/-- The ERR bit a command that ends with code c sets: bit c − 1, none for OK (10_state.md R30,
60_exceptions.md R300). -/
def ResultCode.errMask : ResultCode → BitVec 10
  | .ok => 0x000#10
  | .illegalCmd => 0x001#10
  | .operandRange => 0x002#10
  | .outOfRange => 0x004#10
  | .wrongLength => 0x008#10
  | .implausible => 0x010#10
  | .noPass => 0x020#10
  | .notValid => 0x040#10
  | .seqOverflow => 0x080#10

/-- ERR.CFG_LOCKED, bit 8 (10_state.md R30, R58). -/
def errCfgLocked : BitVec 10 := 0x100#10

/-- ERR.BUS, bit 9 (10_state.md R30, 20_memory.md R77). -/
def errBus : BitVec 10 := 0x200#10

/-- The value of STATUS.VERDICT (10_state.md R29). -/
def Verdict.code : Verdict → BitVec 3
  | .noPush => 0#3
  | .accept => 1#3
  | .dropTime => 2#3
  | .dropRange => 3#3
  | .dropManual => 4#3

/-- STATUS.EMPTY: computed, 1 exactly when ACC_COUNT = 0 (10_state.md R29). -/
def State.empty (s : State) : Bool := s.accCount == 0#32

/-- STATUS: bit 0 PKT_VALID, 1 PKT_PUSHED, 2 DIAG_DUMMY, 6..3 IMPL_WHY, 7 PASS_ACTIVE,
8 PREV_VALID, 11..9 VERDICT, 12 EMPTY (10_state.md R27 to R29). -/
def State.statusBits (s : State) : BitVec 13 :=
  BitVec.ofBool s.empty ++ s.verdict.code ++ BitVec.ofBool s.prevValid ++
    BitVec.ofBool s.passActive ++ s.implWhy ++ BitVec.ofBool s.diagDummy ++
    BitVec.ofBool s.pktPushed ++ BitVec.ofBool s.pktValid

/-- CTRL.TIME_EN, bit 0 (10_state.md R31). -/
def State.timeEn (s : State) : Bool := s.ctrl.getLsbD 0

/-- CTRL.RANGE_EN, bit 1 (10_state.md R31). -/
def State.rangeEn (s : State) : Bool := s.ctrl.getLsbD 1

/-- CTRL.MANUAL_EN, bit 2 (10_state.md R31). -/
def State.manualEn (s : State) : Bool := s.ctrl.getLsbD 2

/-- CTRL.ALLOW_WRAP, bit 3 (10_state.md R31). -/
def State.allowWrap (s : State) : Bool := s.ctrl.getLsbD 3

/-- CTRL.MAXJUMP_EN, bit 4 (10_state.md R31). -/
def State.maxJumpEn (s : State) : Bool := s.ctrl.getLsbD 4

/-- RCTL.MIN_EN, bit 0 (10_state.md R51). -/
def ChanBound.minEn (b : ChanBound) : Bool := b.ctl.getLsbD 0

/-- RCTL.MAX_EN, bit 1 (10_state.md R51). -/
def ChanBound.maxEn (b : ChanBound) : Bool := b.ctl.getLsbD 1

/-- ECTL.V, bit 0 (10_state.md R55). -/
def CamEntry.valid (e : CamEntry) : Bool := e.ctl.getLsbD 0

/-- Flag k of the held packet's FlagSet, bit k of PKT15 (10_state.md R41, 41_fieldcodec.md R165). -/
def State.flag (s : State) (k : Fin 8) : Bool := s.pkt[15].getLsbD k.val

/-- The name of flag k (10_state.md R41); the names of bits 1..6 are the spec's own. -/
def flagName (k : Fin 8) : String :=
  if k = 0 then "err"
  else if k = 7 then "start"
  else "FLAG" ++ toString k.val

/-- The FlagSet in the collaborator's order, flag 7 first (10_state.md R41). -/
def State.flagsHighToLow (s : State) : List Bool :=
  [s.flag 7, s.flag 6, s.flag 5, s.flag 4, s.flag 3, s.flag 2, s.flag 1, s.flag 0]

end Sys2Proof.Machine
end

