-- ==== Sys2Proof/Machine/Ops.lean ====
section
/-! DEFINITION. The operations every command shares: ending with a result code, setting and
acknowledging ERR bits, the record buffer's bytes, words and bits, and the block's resets. -/

namespace Sys2Proof.Machine

/-! ### Ending a command -/

/-- A command ends OK: RESULT.CODE ← OK, ERR unchanged (45_control.md R273). -/
def State.succeed (s : State) : State := { s with result := .ok }

/-- `raise Fault(c)`, the block's one way to take an exception (60_exceptions.md R304): RESULT.CODE
← c and the ERR bit of c is set, and nothing else. Nothing is saved and no control is transferred
(R305). -/
def State.raise (c : ResultCode) (s : State) : State :=
  { s with result := c, err := s.err ||| c.errMask }

/-- A command body that has made its writes ends with its code (45_control.md R273). -/
def State.finish : ResultCode × State → State
  | (.ok, s) => s.succeed
  | (c, s) => s.raise c

/-- Setting a bus-level sticky bit, ERR.CFG_LOCKED or ERR.BUS (10_state.md R30). -/
def State.setErr (mask : BitVec 10) (s : State) : State := { s with err := s.err ||| mask }

/-- Acknowledging errors, the block's only return from one: writing 1 to an ERR bit clears it
(60_exceptions.md R306, 10_state.md R23 class W1C). -/
def State.acknowledge (v : Word) (s : State) : State :=
  { s with err := s.err &&& ~~~(v.setWidth 10) }

/-! ### The record buffer -/

/-- `RBUF[j]` (00_scope.md R15). Bytes 42 and 43, the upper half of word RBUF10, read 0
(10_state.md R42); no command reads a byte past 41. -/
def recordByte (r : Vector Byte 42) (j : Nat) : Byte := r[j]?.getD 0#8

/-- `bit(k)`: record bit k is bit `k mod 8` of byte `k div 8` (20_memory.md R78). -/
def recordBit (r : Vector Byte 42) (k : Nat) : Bool := (recordByte r (k / 8)).getLsbD (k % 8)

/-- The value of reading n bits at position p, `Σ bit(p + j) · 2^j` (40_bitcursor.md R142). -/
def readBits (r : Vector Byte 42) : (p n : Nat) → Nat
  | _, 0 => 0
  | p, n + 1 => (recordBit r p).toNat + 2 * readBits r (p + 1) n

/-- The loop of CUR_READ in byte chunks (40_bitcursor.md R146), with fuel for its turns. -/
def chunkLoop (r : Vector Byte 42) (n : Nat) : (fuel acc got p : Nat) → Nat
  | 0, acc, _, _ => acc
  | fuel + 1, acc, got, p =>
    if got < n then
      let take := min (8 - p % 8) (n - got)
      let chunk := ((recordByte r (p / 8)).toNat >>> (p % 8)) % 2 ^ take
      chunkLoop r n fuel (acc + chunk * 2 ^ got) (got + take) (p + take)
    else acc

/-- CUR_READ's own algorithm (40_bitcursor.md R146): n turns are enough, since each takes a bit or
more. R142 says it computes `readBits`. -/
def readBitsInChunks (r : Vector Byte 42) (p n : Nat) : Nat := chunkLoop r n n 0 0 p

/-- Word w of the record buffer, little-endian (10_state.md R42, 20_memory.md R76). -/
def recordWord (r : Vector Byte 42) (w : Fin 11) : Word :=
  recordByte r (4 * w.val + 3) ++ recordByte r (4 * w.val + 2) ++
    recordByte r (4 * w.val + 1) ++ recordByte r (4 * w.val)

/-- Writing word w of the record buffer; for RBUF10 bits 31..16 go nowhere (20_memory.md R76). -/
def setRecordWord (r : Vector Byte 42) (w : Fin 11) (v : Word) : Vector Byte 42 :=
  ((((r.setIfInBounds (4 * w.val) (v.extractLsb' 0 8)).setIfInBounds
    (4 * w.val + 1) (v.extractLsb' 8 8)).setIfInBounds
    (4 * w.val + 2) (v.extractLsb' 16 8)).setIfInBounds
    (4 * w.val + 3) (v.extractLsb' 24 8))

/-! ### The cursor -/

/-- CUR_LEFT = 8 × CUR_LEN − CUR_POS, computed (10_state.md R34, 40_bitcursor.md R143). -/
def State.curLeft (s : State) : Nat := 8 * s.curLen.val - s.curPos.val

/-! ### Resets -/

/-- Every register but RBUF goes to its reset value (45_control.md R272, 10_state.md R62); the
outside world and the block's parameters are not registers and stay. -/
def State.softResetRegs (s : State) : State :=
  { State.resetWith s.config s.rbuf with bus := s.bus, resets := s.resets }

/-- The hardware reset (70_reset_and_hazards.md R340): as SOFT_RESET, but RBUF holds arbitrary
bytes, fresh free values at each reset (R342; log entry 4). -/
def State.hardResetRegs (s : State) : State :=
  { State.resetWith s.config (Config.freeRecord (s.resets + 1)) with
    bus := s.bus, resets := s.resets + 1 }

end Sys2Proof.Machine
end

