-- ==== Sys2Proof/Machine/Operands.lean ====
section
/-! DEFINITION. The operand forms: sign extension (00_scope.md R14, 41_fieldcodec.md R160), the
record layout (30_encoding.md R100, 41_fieldcodec.md R163), the conversion of a field (R164), and
the channel numbering (10_state.md R50). -/

namespace Sys2Proof.Machine

/-- `sext_b(v)`: if bit b − 1 is set, `v − 2^b`, else `v` (00_scope.md R14, 41_fieldcodec.md R160). -/
def signExtend (v b : Nat) : Int := if v.testBit (b - 1) then (v : Int) - 2 ^ b else v

/-- The fields of a record, in decode order (30_encoding.md R100). -/
inductive Field where
  | timeMs | tempCC | pressPa | lat1e7 | lon1e7 | dummy
  | magX | magY | magZ | accelX | accelY | accelZ | gyroX | gyroY | gyroZ
  | flags | radData0 | radData1 | radData2 | radData3
  deriving DecidableEq, Repr

/-- How a raw field becomes a value (41_fieldcodec.md R163, R164). -/
inductive FieldKind where
  | unsigned | signed | bitfield | discarded
  deriving DecidableEq, Repr

/-- One row of LAYOUT: name, width, kind (41_fieldcodec.md R163). -/
structure LayoutRow where
  field : Field
  width : Nat
  kind : FieldKind
  deriving DecidableEq, Repr

/-- LAYOUT, the constant list of the 20 rows in decode order (30_encoding.md R100). -/
def layout : Vector LayoutRow 20 := #v[
  ⟨.timeMs, 24, .unsigned⟩, ⟨.tempCC, 14, .signed⟩, ⟨.pressPa, 20, .unsigned⟩,
  ⟨.lat1e7, 30, .signed⟩, ⟨.lon1e7, 30, .signed⟩, ⟨.dummy, 2, .discarded⟩,
  ⟨.magX, 16, .signed⟩, ⟨.magY, 16, .signed⟩, ⟨.magZ, 16, .signed⟩,
  ⟨.accelX, 16, .signed⟩, ⟨.accelY, 16, .signed⟩, ⟨.accelZ, 16, .signed⟩,
  ⟨.gyroX, 16, .signed⟩, ⟨.gyroY, 16, .signed⟩, ⟨.gyroZ, 16, .signed⟩,
  ⟨.flags, 8, .bitfield⟩, ⟨.radData0, 16, .unsigned⟩, ⟨.radData1, 16, .unsigned⟩,
  ⟨.radData2, 16, .unsigned⟩, ⟨.radData3, 16, .unsigned⟩]

/-- The first record bit of row j: the rows before it are read first (42_packetdecoder.md R183). -/
def firstBit (j : Nat) : Nat := ((layout.toList.take j).map (·.width)).sum

/-- The PKT value of a raw field of width w (41_fieldcodec.md R164). -/
def FieldKind.convert (w raw : Nat) : FieldKind → Word
  | .unsigned => BitVec.ofNat 32 raw
  | .signed => u32 (signExtend raw w)
  | .bitfield => BitVec.ofNat 32 raw
  | .discarded => BitVec.ofNat 32 raw

/-- The raw value of row j of a record (30_encoding.md R101). -/
def rawField (r : Vector Byte 42) (j : Fin 20) : Nat :=
  readBits r (firstBit j.val) layout[j].width

/-- The 20 decoded fields of a record, in layout order (42_packetdecoder.md R183). -/
def decodedFields (r : Vector Byte 42) : Vector Word 20 :=
  Vector.ofFn fun j => layout[j].kind.convert layout[j].width (rawField r j)

/-- The PKT register of channel c: every field but `dummy` and `flags`, in decode order
(10_state.md R50). -/
def chanReg (c : Fin 18) : Fin 20 :=
  if c.val < 5 then ⟨c.val, by omega⟩
  else if c.val < 14 then ⟨c.val + 1, by omega⟩
  else ⟨c.val + 2, by omega⟩

/-- The value of channel c, `s32(PKT[chanreg(c)])` (10_state.md R50, 44_filterpipeline.md R249). -/
def State.chanValue (s : State) (c : Fin 18) : Int := s32 s.pkt[chanReg c]

/-- The magnitude of a signed register, `abs(s32(w))` (42_packetdecoder.md R185). -/
def magnitude (w : Word) : Nat := (s32 w).natAbs

end Sys2Proof.Machine
end

