-- ==== Sys2Proof/Machine/FilterPipeline.lean ====
section
/-! DEFINITION. The filter pipeline: FILTER_BEGIN, FILTER_PUSH, FILTER_END, and the push that
DECODE_PUSH shares (44_filterpipeline.md). -/

namespace Sys2Proof.Machine

/-! ### Time stage -/

/-- Δ after any wrap adjustment, none when no comparison is made: the stage is off or there is no
baseline (44_filterpipeline.md R242, R243, R245). -/
def State.timeDelta (s : State) : Option Int :=
  if s.timeEn && s.prevValid then
    let d : Int := (uval s.pkt[0] : Int) - (s.prevTime.toNat : Int)
    some (if d < 0 ∧ s.allowWrap = true then d + 2 ^ 24 else d)
  else none

/-- The time stage fails the packet (44_filterpipeline.md R243). -/
def State.timeFails (s : State) : Bool :=
  match s.timeDelta with
  | none => false
  | some d => (s.maxJumpEn && decide (s32 s.maxJump < d)) || (decide (d < 0) && !s.allowWrap)

/-! ### Channel-range stage -/

/-- A configured bound of the channel is violated by value v; equality passes
(44_filterpipeline.md R250). -/
def ChanBound.violatedBy (b : ChanBound) (v : Int) : Bool :=
  (b.minEn && decide (v < s32 b.min)) || (b.maxEn && decide (s32 b.max < v))

/-- The range stage, when enabled, fails the packet (44_filterpipeline.md R248). -/
def State.rangeFails (s : State) : Bool :=
  s.rangeEn && (List.finRange 18).any fun c => s.chan[c].violatedBy (s.chanValue c)

/-! ### Manual stage -/

/-- The entry is in use and excludes position i (44_filterpipeline.md R252). -/
def CamEntry.excludes (e : CamEntry) (i : Word) : Bool :=
  e.valid && decide (uval e.lo ≤ uval i) && decide (uval i ≤ uval e.hi)

/-- The manual stage, when enabled, fails the packet: some entry `k < N_EXCL` excludes its position
SEQ_IDX (44_filterpipeline.md R252, R236). -/
def State.manualFails (s : State) : Bool :=
  s.manualEn && (List.finRange 64).any fun k =>
    decide (k.val < s.config.nExcl) && s.cam[k].excludes s.seqIdx

/-! ### The push -/

/-- The verdict: the first failing stage in the order time, range, manual drops the packet
(44_filterpipeline.md R235). -/
def State.pushVerdict (s : State) : Verdict :=
  if s.timeFails then .dropTime
  else if s.rangeFails then .dropRange
  else if s.manualFails then .dropManual
  else .accept

/-- Whether the push moves the time baseline (44_filterpipeline.md R247). -/
def State.movesBaseline (s : State) : Bool :=
  s.timeEn && !s.timeFails && (!s.config.prevOnFinal || s.pushVerdict == .accept)

/-- The counters after a push of the given verdict: exactly one is incremented
(44_filterpipeline.md R246). -/
def State.countVerdict (s : State) : Verdict → State
  | .accept => { s with accCount := s.accCount + 1#32 }
  | .dropTime => { s with dropTime := s.dropTime + 1#32 }
  | .dropRange => { s with dropRange := s.dropRange + 1#32 }
  | .dropManual => { s with dropManual := s.dropManual + 1#32 }
  | .noPush => s

/-- The baseline after a push: PREV_TIME ← `time_ms` and PREV_VALID ← 1, or unchanged
(44_filterpipeline.md R247). PREV_TIME holds 24 bits. -/
def State.updateBaseline (s : State) (moves : Bool) : State :=
  if moves then { s with prevTime := s.pkt[0].setWidth 24, prevValid := true } else s

/-- `push_body` (44_filterpipeline.md R234). It cannot fail. -/
def State.pushBody (s : State) : State :=
  let t := (s.updateBaseline s.movesBaseline).countVerdict s.pushVerdict
  { t with
    lastDelta := u32 (s.timeDelta.getD 0)
    verdict := s.pushVerdict
    pktPushed := true
    seqIdx := s.seqIdx + 1#32 }

/-! ### Commands -/

/-- FILTER_BEGIN (44_filterpipeline.md R231). -/
def execFilterBegin (s : State) : Host.Outcome State Fault Refusal :=
  .next
    { s with
      passActive := true
      prevValid := false
      prevTime := 0#24
      seqIdx := 0#32
      accCount := 0#32
      dropTime := 0#32
      dropRange := 0#32
      dropManual := 0#32
      decOk := 0#32
      decFail := 0#32
      lastDelta := 0#32
      verdict := .noPush }.succeed

/-- FILTER_PUSH (44_filterpipeline.md R233): NO_PASS, then NOT_VALID, then SEQ_OVERFLOW
(60_exceptions.md R303). -/
def execFilterPush (s : State) : Host.Outcome State Fault Refusal :=
  if s.passActive = false then .next (s.raise .noPass)
  else if s.pktValid = false ∨ s.pktPushed = true then .next (s.raise .notValid)
  else if s.seqIdx = 0xFFFFFFFF#32 then .next (s.raise .seqOverflow)
  else .next s.pushBody.succeed

/-- FILTER_END (44_filterpipeline.md R240). -/
def execFilterEnd (s : State) : Host.Outcome State Fault Refusal :=
  .next { s with passActive := false }.succeed

end Sys2Proof.Machine
end

