-- ==== Sys2Proof/Machine/PacketDecoder.lean ====
section
/-! DEFINITION. The packet decoder and validator: DECODE (42_packetdecoder.md). -/

namespace Sys2Proof.Machine

/-- The plausibility checks of packet p under the limits of s, all four evaluated: bit 0 PRESS,
1 LAT, 2 LON, 3 TEMP (42_packetdecoder.md R185, R186). -/
def State.plausibility (s : State) (p : Vector Word 20) : BitVec 4 :=
  BitVec.ofBool (decide (uval s.vlimTemp < magnitude p[1])) ++
    BitVec.ofBool (decide (uval s.vlimLon < magnitude p[4])) ++
    BitVec.ofBool (decide (uval s.vlimLat < magnitude p[3])) ++
    BitVec.ofBool (decide (uval s.vlimPress ≤ uval p[2]))

/-- DECODE's writes before it ends WRONG_LENGTH (42_packetdecoder.md R181, R182 case a). -/
def State.holdNoRecord (s : State) : State :=
  { s with
    pktValid := false
    pktPushed := false
    diagDummy := false
    implWhy := 0#4
    decFail := s.decFail + 1#32 }

/-- DECODE's writes before it ends IMPLAUSIBLE: the cursor at the end of the 42 bytes (R183), the
decoded fields p, the dummy diagnostic (R184) and the failing checks (42_packetdecoder.md R181,
R182 case b). -/
def State.holdImplausible (s : State) (p : Vector Word 20) (why : BitVec 4) : State :=
  { s with
    curLen := 42
    curPos := 336
    pkt := p
    pktValid := false
    pktPushed := false
    diagDummy := p[5] != 0#32
    implWhy := why
    decFail := s.decFail + 1#32 }

/-- DECODE's writes before it ends OK (42_packetdecoder.md R181, R182 case c). -/
def State.holdPacket (s : State) (p : Vector Word 20) : State :=
  { s with
    curLen := 42
    curPos := 336
    pkt := p
    pktValid := true
    pktPushed := false
    diagDummy := p[5] != 0#32
    implWhy := 0#4
    decOk := s.decOk + 1#32 }

/-- The body of DECODE: the code it ends with and the state its writes leave (42_packetdecoder.md
R181). CUR_DATA is not written (R183). -/
def State.decodeBody (s : State) : ResultCode × State :=
  if s.rlen ≠ 42#8 then (.wrongLength, s.holdNoRecord)
  else
    let p := decodedFields s.rbuf
    let why := s.plausibility p
    if why ≠ 0#4 then (.implausible, s.holdImplausible p why) else (.ok, s.holdPacket p)

/-- DECODE (42_packetdecoder.md R181). -/
def execDecode (s : State) : Host.Outcome State Fault Refusal :=
  .next (State.finish s.decodeBody)

end Sys2Proof.Machine
end

