-- ==== Sys2Proof/Machine/BatchDecoder.lean ====
section
/-! DEFINITION. The per-record step of the batch decoder: DECODE_PUSH (43_batchdecoder.md). -/

namespace Sys2Proof.Machine

/-- A decode body followed, when it ended OK, by the push (43_batchdecoder.md R211). -/
def State.thenPush : ResultCode × State → ResultCode × State
  | (.ok, s) => (.ok, s.pushBody)
  | (c, s) => (c, s)

/-- DECODE_PUSH (43_batchdecoder.md R211): NO_PASS, then SEQ_OVERFLOW, then DECODE's own codes
(60_exceptions.md R303). -/
def execDecodePush (s : State) : Host.Outcome State Fault Refusal :=
  if s.passActive = false then .next (s.raise .noPass)
  else if s.seqIdx = 0xFFFFFFFF#32 then .next (s.raise .seqOverflow)
  else .next (State.finish (State.thenPush s.decodeBody))

end Sys2Proof.Machine
end

