-- ==== Sys2Proof/Machine/BitCursor.lean ====
section
/-! DEFINITION. The cursor commands CUR_RESET and CUR_READ (40_bitcursor.md). -/

namespace Sys2Proof.Machine

/-- CUR_RESET: a cursor over the first RLEN bytes of RBUF (40_bitcursor.md R145). -/
def execCurReset (s : State) : Host.Outcome State Fault Refusal :=
  if 42 < s.rlen.toNat then .next (s.raise .operandRange)
  else
    .next
      { s with curLen := Fin.ofNat 43 s.rlen.toNat, curPos := 0 }.succeed

/-- CUR_READ n (40_bitcursor.md R146): OPERAND_RANGE first, then OUT_OF_RANGE (60_exceptions.md
R303). The test `n > 8·CUR_LEN − CUR_POS` is on integers. -/
def execCurRead (n : Nat) (s : State) : Host.Outcome State Fault Refusal :=
  if 32 < n then .next (s.raise .operandRange)
  else if 8 * s.curLen.val < s.curPos.val + n then .next (s.raise .outOfRange)
  else
    .next
      { s with
        curData := BitVec.ofNat 32 (readBits s.rbuf s.curPos.val n)
        curPos := Fin.ofNat 337 (s.curPos.val + n) }.succeed

end Sys2Proof.Machine
end

