-- ==== Sys2Proof/Machine/Control.lean ====
section
/-! DEFINITION. The control commands NOP and SOFT_RESET, and the illegal command word
(45_control.md). -/

namespace Sys2Proof.Machine

/-- NOP (45_control.md R270). -/
def execNop (s : State) : Host.Outcome State Fault Refusal := .next s.succeed

/-- SOFT_RESET (45_control.md R272). -/
def execSoftReset (s : State) : Host.Outcome State Fault Refusal :=
  .next s.softResetRegs.succeed

/-- A word the decoder rejects executes nothing and ends ILLEGAL_CMD (45_control.md R271). -/
def illegalCommand (s : State) : Host.Outcome State Fault Refusal :=
  .next (s.raise .illegalCmd)

end Sys2Proof.Machine
end

