-- ==== Sys2Proof/Machine/FieldCodec.lean ====
section
/-! DEFINITION. The sign-extension command SEXT (41_fieldcodec.md). -/

namespace Sys2Proof.Machine

/-- SEXT bits (41_fieldcodec.md R160). -/
def execSext (bits : Nat) (s : State) : Host.Outcome State Fault Refusal :=
  if bits = 0 ∨ 32 < bits then .next (s.raise .operandRange)
  else if 2 ^ bits ≤ uval s.sxIn then .next (s.raise .operandRange)
  else .next { s with sxOut := u32 (signExtend (uval s.sxIn) bits) }.succeed

end Sys2Proof.Machine
end

