-- ==== Sys2Proof/Machine/Dispatch.lean ====
section
/-! DEFINITION. The meaning of each command, one arm per constructor of Instr. -/

namespace Sys2Proof.Machine

def exec (i : Instr) (s : State) : Host.Outcome State Fault Refusal :=
  match i with
  | .nop => Sys2Proof.Machine.execNop s
  | .curReset => Sys2Proof.Machine.execCurReset s
  | .curRead n => Sys2Proof.Machine.execCurRead n s
  | .sext bits => Sys2Proof.Machine.execSext bits s
  | .decode => Sys2Proof.Machine.execDecode s
  | .decodePush => Sys2Proof.Machine.execDecodePush s
  | .filterBegin => Sys2Proof.Machine.execFilterBegin s
  | .filterPush => Sys2Proof.Machine.execFilterPush s
  | .filterEnd => Sys2Proof.Machine.execFilterEnd s
  | .softReset => Sys2Proof.Machine.execSoftReset s

end Sys2Proof.Machine
end

