-- ==== Sys2Proof/Machine/Registers.lean ====
section
/-! DEFINITION. The register map (10_state.md section 2): every register with its offset, access
class and width, its value on a read, and the effect of a permitted write. -/

namespace Sys2Proof.Machine

/-- Every register of the map (10_state.md section 2). -/
inductive Reg where
  | id | version | cmd | result | status | err | ctrl | maxJump
  | rlen | curPos | curLen | curLeft | curData | sxIn | sxOut
  | vlimPress | vlimLat | vlimLon | vlimTemp
  | prevTime | seqIdx | accCount | dropTime | dropRange | dropManual | lastDelta | decOk | decFail
  | rbuf (w : Fin 11)
  | pkt (j : Fin 20)
  | rctl (c : Fin 18) | rmin (c : Fin 18) | rmax (c : Fin 18)
  | ectl (k : Fin 64) | elo (k : Fin 64) | ehi (k : Fin 64)
  deriving DecidableEq, Repr

/-- The access classes (10_state.md R23). -/
inductive AccessClass where
  | ro | rw | wo | w1c | lk
  deriving DecidableEq, Repr

/-- The offset of a register (10_state.md section 2). -/
def Reg.offset : Reg → Nat
  | .id => 0x000
  | .version => 0x004
  | .cmd => 0x008
  | .result => 0x00C
  | .status => 0x010
  | .err => 0x014
  | .ctrl => 0x018
  | .maxJump => 0x01C
  | .rlen => 0x020
  | .curPos => 0x024
  | .curLen => 0x028
  | .curLeft => 0x02C
  | .curData => 0x030
  | .sxIn => 0x034
  | .sxOut => 0x038
  | .vlimPress => 0x040
  | .vlimLat => 0x044
  | .vlimLon => 0x048
  | .vlimTemp => 0x04C
  | .prevTime => 0x060
  | .seqIdx => 0x064
  | .accCount => 0x068
  | .dropTime => 0x06C
  | .dropRange => 0x070
  | .dropManual => 0x074
  | .lastDelta => 0x078
  | .decOk => 0x07C
  | .decFail => 0x080
  | .rbuf w => 0x100 + 4 * w.val
  | .pkt j => 0x140 + 4 * j.val
  | .rctl c => 0x200 + 16 * c.val
  | .rmin c => 0x204 + 16 * c.val
  | .rmax c => 0x208 + 16 * c.val
  | .ectl k => 0x400 + 16 * k.val
  | .elo k => 0x404 + 16 * k.val
  | .ehi k => 0x408 + 16 * k.val

/-- The access class of a register (10_state.md section 2). -/
def Reg.accessClass : Reg → AccessClass
  | .id | .version | .result | .status => .ro
  | .cmd => .wo
  | .err => .w1c
  | .ctrl | .maxJump => .lk
  | .rlen | .sxIn | .vlimPress | .vlimLat | .vlimLon | .vlimTemp => .rw
  | .curPos | .curLen | .curLeft | .curData | .sxOut => .ro
  | .prevTime | .seqIdx | .accCount | .dropTime | .dropRange | .dropManual | .lastDelta => .ro
  | .decOk | .decFail => .ro
  | .rbuf _ => .rw
  | .pkt _ => .ro
  | .rctl _ | .rmin _ | .rmax _ => .lk
  | .ectl _ | .elo _ | .ehi _ => .lk

/-- The width of a register in bits (10_state.md section 2). -/
def Reg.width : Reg → Nat
  | .result => 4
  | .status => 13
  | .err => 10
  | .ctrl => 5
  | .rlen => 8
  | .curPos | .curLeft => 9
  | .curLen => 6
  | .prevTime => 24
  | .rctl _ => 2
  | .ectl _ => 1
  | .rbuf w => if w = 10 then 16 else 32
  | .id | .version | .cmd | .maxJump | .curData | .sxIn | .sxOut => 32
  | .vlimPress | .vlimLat | .vlimLon | .vlimTemp => 32
  | .seqIdx | .accCount | .dropTime | .dropRange | .dropManual | .lastDelta => 32
  | .decOk | .decFail | .pkt _ | .rmin _ | .rmax _ | .elo _ | .ehi _ => 32

/-- The register at an offset below 0x100 (10_state.md section 2). -/
def fixedRegAt : Nat → Option Reg
  | 0x000 => some .id
  | 0x004 => some .version
  | 0x008 => some .cmd
  | 0x00C => some .result
  | 0x010 => some .status
  | 0x014 => some .err
  | 0x018 => some .ctrl
  | 0x01C => some .maxJump
  | 0x020 => some .rlen
  | 0x024 => some .curPos
  | 0x028 => some .curLen
  | 0x02C => some .curLeft
  | 0x030 => some .curData
  | 0x034 => some .sxIn
  | 0x038 => some .sxOut
  | 0x040 => some .vlimPress
  | 0x044 => some .vlimLat
  | 0x048 => some .vlimLon
  | 0x04C => some .vlimTemp
  | 0x060 => some .prevTime
  | 0x064 => some .seqIdx
  | 0x068 => some .accCount
  | 0x06C => some .dropTime
  | 0x070 => some .dropRange
  | 0x074 => some .dropManual
  | 0x078 => some .lastDelta
  | 0x07C => some .decOk
  | 0x080 => some .decFail
  | _ => none

/-- The register of a 16-byte group at slot 0, 4 or 8; slot 12 is unmapped (10_state.md R51,
R55). -/
def groupRegAt (slot0 slot4 slot8 : Reg) (slot : Nat) : Option Reg :=
  if slot = 0 then some slot0
  else if slot = 4 then some slot4
  else if slot = 8 then some slot8
  else none

/-- The register at a byte offset, none where the offset is unmapped; a CAM entry is mapped only
for `k < N_EXCL` (10_state.md section 2, R51, R55). -/
def regAt (config : Config) (a : Nat) : Option Reg :=
  if a < 0x100 then fixedRegAt a
  else if h : 0x100 ≤ a ∧ a < 0x12C then
    if a % 4 = 0 then some (.rbuf ⟨(a - 0x100) / 4, by omega⟩) else none
  else if h : 0x140 ≤ a ∧ a < 0x190 then
    if a % 4 = 0 then some (.pkt ⟨(a - 0x140) / 4, by omega⟩) else none
  else if h : 0x200 ≤ a ∧ a < 0x320 then
    let c : Fin 18 := ⟨(a - 0x200) / 16, by omega⟩
    groupRegAt (.rctl c) (.rmin c) (.rmax c) (a % 16)
  else if h : 0x400 ≤ a ∧ a < 0x800 then
    let k : Fin 64 := ⟨(a - 0x400) / 16, by omega⟩
    if k.val < config.nExcl then groupRegAt (.ectl k) (.elo k) (.ehi k) (a % 16) else none
  else none

/-- The value of a register on a read, unused high bits 0 (20_memory.md R74, 10_state.md R23). -/
def State.readReg (s : State) : Reg → Word
  | .id => Config.idWord
  | .version => Config.versionWord
  | .cmd => 0#32
  | .result => s.result.code.setWidth 32
  | .status => s.statusBits.setWidth 32
  | .err => s.err.setWidth 32
  | .ctrl => s.ctrl.setWidth 32
  | .maxJump => s.maxJump
  | .rlen => s.rlen.setWidth 32
  | .curPos => BitVec.ofNat 32 s.curPos.val
  | .curLen => BitVec.ofNat 32 s.curLen.val
  | .curLeft => BitVec.ofNat 32 s.curLeft
  | .curData => s.curData
  | .sxIn => s.sxIn
  | .sxOut => s.sxOut
  | .vlimPress => s.vlimPress
  | .vlimLat => s.vlimLat
  | .vlimLon => s.vlimLon
  | .vlimTemp => s.vlimTemp
  | .prevTime => s.prevTime.setWidth 32
  | .seqIdx => s.seqIdx
  | .accCount => s.accCount
  | .dropTime => s.dropTime
  | .dropRange => s.dropRange
  | .dropManual => s.dropManual
  | .lastDelta => s.lastDelta
  | .decOk => s.decOk
  | .decFail => s.decFail
  | .rbuf w => recordWord s.rbuf w
  | .pkt j => s.pkt[j]
  | .rctl c => s.chan[c].ctl.setWidth 32
  | .rmin c => s.chan[c].min
  | .rmax c => s.chan[c].max
  | .ectl k => s.cam[k].ctl.setWidth 32
  | .elo k => s.cam[k].lo
  | .ehi k => s.cam[k].hi

/-- `r <- v & mask(r)` for the registers a host write can set, classes RW and LK; every other
register is left as it is (20_memory.md R75, R76). -/
def State.writeReg (s : State) (r : Reg) (v : Word) : State :=
  match r with
  | .ctrl => { s with ctrl := v.setWidth 5 }
  | .maxJump => { s with maxJump := v }
  | .rlen => { s with rlen := v.setWidth 8 }
  | .sxIn => { s with sxIn := v }
  | .vlimPress => { s with vlimPress := v }
  | .vlimLat => { s with vlimLat := v }
  | .vlimLon => { s with vlimLon := v }
  | .vlimTemp => { s with vlimTemp := v }
  | .rbuf w => { s with rbuf := setRecordWord s.rbuf w v }
  | .rctl c => { s with chan := s.chan.set c { s.chan[c] with ctl := v.setWidth 2 } }
  | .rmin c => { s with chan := s.chan.set c { s.chan[c] with min := v } }
  | .rmax c => { s with chan := s.chan.set c { s.chan[c] with max := v } }
  | .ectl k => { s with cam := s.cam.set k { s.cam[k] with ctl := v.setWidth 1 } }
  | .elo k => { s with cam := s.cam.set k { s.cam[k] with lo := v } }
  | .ehi k => { s with cam := s.cam.set k { s.cam[k] with hi := v } }
  | .id | .version | .cmd | .result | .status | .err => s
  | .curPos | .curLen | .curLeft | .curData | .sxOut => s
  | .prevTime | .seqIdx | .accCount | .dropTime | .dropRange | .dropManual | .lastDelta => s
  | .decOk | .decFail | .pkt _ => s

end Sys2Proof.Machine
end

