-- ==== Sys2Proof/Machine/Bus.lean ====
section
/-! DEFINITION. The host bus: register reads and writes, the command a CMD write executes, and the
hardware reset (20_memory.md R70 to R77, 30_encoding.md R113, 70_reset_and_hazards.md R340). -/

namespace Sys2Proof.Machine

/-- `execute_command(w)` (30_encoding.md R113). -/
def executeCommand (w : Word) (s : State) : Host.Outcome State Fault Refusal :=
  match decode w with
  | .ok i => exec i s
  | .error _ => illegalCommand s

/-- The register an access reaches: none when the offset is unmapped or not a multiple of 4, or
the access is not 32 bits wide (20_memory.md R74, R75, R77). -/
def State.target (s : State) (addr : BitVec 12) (width : Nat) : Option Reg :=
  if width = 32 ∧ addr.toNat % 4 = 0 then regAt s.config addr.toNat else none

/-- The bus answers the access. -/
def State.respond (s : State) (r : BusResponse) : State :=
  { s with bus := { s.bus with response := some r } }

/-- `MemRead` (20_memory.md R74): the register's value and no other change, or the error response
of R77: a read gives 0 and ERR.BUS is set. -/
def memRead (addr : BitVec 12) (width : Nat) (s : State) : Host.Outcome State Fault Refusal :=
  match s.target addr width with
  | none => .next ((s.setErr errBus).respond ⟨some 0#32, true⟩)
  | some r => .next (s.respond ⟨some (s.readReg r), false⟩)

/-- A write that reaches register `r` acts by its class (20_memory.md R75). -/
def writeByClass (r : Reg) (v : Word) (s : State) : Host.Outcome State Fault Refusal :=
  match r.accessClass with
  | .rw => .next (s.writeReg r v)
  | .ro => .next s
  | .w1c => .next (s.acknowledge v)
  | .lk => if s.passActive then .next (s.setErr errCfgLocked) else .next (s.writeReg r v)
  | .wo => executeCommand v s

/-- `MemWrite` (20_memory.md R75), or the error response of R77: nothing changes but ERR.BUS. -/
def memWrite (addr : BitVec 12) (width : Nat) (v : Word) (s : State) :
    Host.Outcome State Fault Refusal :=
  match s.target addr width with
  | none => .next ((s.setErr errBus).respond ⟨none, true⟩)
  | some r => writeByClass r v (s.respond ⟨none, false⟩)

/-- One event of the outside world, complete with the command it starts (20_memory.md R72). -/
def handleEvent (e : HostEvent) (s : State) : Host.Outcome State Fault Refusal :=
  match e with
  | .read addr width => memRead addr width s
  | .write addr width v => memWrite addr width v s
  | .hardReset => .next s.hardResetRegs

/-- The state once its first pending event is taken off the list. -/
def State.afterTaking (s : State) (rest : List HostEvent) : State :=
  { s with bus := { s.bus with pending := rest } }

/-- The next event of the outside world; while there is none the block holds its state
(60_exceptions.md R318; log entry 2). -/
def nextEvent (s : State) : Host.Outcome State Fault Refusal :=
  match s.bus.pending with
  | [] => .next s
  | e :: rest => handleEvent e (s.afterTaking rest)

/-- The host write that gives the block command word `w` (10_state.md R25). -/
def commandWrite (w : Word) : HostEvent := .write 0x008#12 32 w

/-- `s` when the host's next access is the CMD write of the low `nbits` bits of `w` (log entry 1). -/
def State.issueCommand (s : State) (nbits w : Nat) : State :=
  { s with
    bus := { s.bus with
      pending := commandWrite (BitVec.ofNat 32 (w % 2 ^ nbits)) :: s.bus.pending } }

end Sys2Proof.Machine
end

