-- ==== Sys2Proof/Machine/Step.lean ====
section
/-! DEFINITION. One step of the machine: the next event of the outside world. -/

namespace Sys2Proof.Machine

/-- One step (20_memory.md R72). -/
def step (s : State) : Host.Outcome State Fault Refusal := nextEvent s

/-- `s` with the command word where the next step takes it: the host's next access (log entry 1). -/
def State.withFetchWord (s : State) (nbits w : Nat) : State := s.issueCommand nbits w

end Sys2Proof.Machine
end

