-- ==== Sys2Proof/Machine/HostProgram.lean ====
section
/-! DEFINITION. The host's side, as functions that make bus accesses: the program syntax and the
pseudo-instructions (30_encoding.md R118, R119), the mapping of a collaborator's values to the
configuration registers (44_filterpipeline.md R251, R253 to R255), and one run over an input file
(43_batchdecoder.md R213). Host software, outside exec and step (00_scope.md R7; log entry 13). -/

namespace Sys2Proof.Machine

/-! ### Program syntax and pseudo-instructions -/

/-- `WR REG, v` (30_encoding.md R118). -/
def wr (r : Reg) (v : Word) : HostEvent := .write (BitVec.ofNat 12 r.offset) 32 v

/-- `RD REG` (30_encoding.md R118). -/
def rd (r : Reg) : HostEvent := .read (BitVec.ofNat 12 r.offset) 32

/-- A command line: the CMD write of its word (30_encoding.md R118). -/
def issue (i : Instr) : HostEvent := commandWrite (encode i)

/-- The RBUF writes of the first `words` words of a record. -/
def loadWords (record : Vector Byte 42) (words : Nat) : List HostEvent :=
  ((List.finRange 11).filter fun w => decide (w.val < words)).map fun w =>
    wr (.rbuf w) (recordWord record w)

/-- `LOADREC b0, …, b41` (30_encoding.md R119). -/
def loadRec (record : Vector Byte 42) : List HostEvent :=
  loadWords record 11 ++ [wr .rlen 42#32]

/-- `LOADBYTES n: b0, …, b(n−1)` (30_encoding.md R119): the words that hold the bytes, missing bytes
0, then RLEN. There is no such line for more than 42 bytes. -/
def loadBytes (bytes : List Byte) : Option (List HostEvent) :=
  if bytes.length ≤ 42 then
    some (loadWords (Vector.ofFn fun j => bytes.getD j.val 0) ((bytes.length + 3) / 4) ++
      [wr .rlen (BitVec.ofNat 32 bytes.length)])
  else none

/-- `BOUND c, lo, hi` (30_encoding.md R119). -/
def bound (c : Fin 18) (lo hi : Int) : List HostEvent :=
  [wr (.rmin c) (u32 lo), wr (.rmax c) (u32 hi), wr (.rctl c) 3#32]

/-- `BOUNDMIN c, lo` (30_encoding.md R119). -/
def boundMin (c : Fin 18) (lo : Int) : List HostEvent :=
  [wr (.rmin c) (u32 lo), wr (.rctl c) 1#32]

/-- `BOUNDMAX c, hi` (30_encoding.md R119). -/
def boundMax (c : Fin 18) (hi : Int) : List HostEvent :=
  [wr (.rmax c) (u32 hi), wr (.rctl c) 2#32]

/-- `EXCL k, lo, hi` (30_encoding.md R119). -/
def excl (k : Fin 64) (lo hi : Word) : List HostEvent :=
  [wr (.elo k) lo, wr (.ehi k) hi, wr (.ectl k) 1#32]

/-- `CLRERR` (30_encoding.md R119). -/
def clrErr : List HostEvent := [wr .err 0x3FF#32]

/-- `PASS` (30_encoding.md R119). -/
def passLine : List HostEvent := [issue .filterBegin]

/-- `ENDPASS` (30_encoding.md R119). -/
def endPassLine : List HostEvent := [issue .filterEnd]

/-! ### Float bounds -/

/-- A collaborator's `float`: a real number or one of the special values (44_filterpipeline.md R251;
log entry 13). -/
inductive FloatVal where
  | nan | negInf | posInf
  | finite (q : Rat)
  deriving DecidableEq, Repr

/-- `clamp(x, −2^31, 2^31 − 1)` (44_filterpipeline.md R251). -/
def clampS32 (x : Int) : Int := max (-2 ^ 31) (min x (2 ^ 31 - 1))

/-- The integer min bound of a supplied value; none leaves MIN_EN = 0 (44_filterpipeline.md R251). -/
def minBoundOf : Option FloatVal → Option Int
  | none => none
  | some .nan => none
  | some .negInf => none
  | some .posInf => some (2 ^ 31 - 1)
  | some (.finite q) => some (clampS32 q.ceil)

/-- The integer max bound of a supplied value; none leaves MAX_EN = 0 (44_filterpipeline.md R251). -/
def maxBoundOf : Option FloatVal → Option Int
  | none => none
  | some .nan => none
  | some .posInf => none
  | some .negInf => some (-2 ^ 31)
  | some (.finite q) => some (clampS32 q.floor)

/-! ### The drop list -/

/-- The pieces of a text between the separators. -/
def splitOnChar (sep : Char) : List Char → List (List Char)
  | [] => [[]]
  | c :: cs =>
    match splitOnChar sep cs with
    | [] => [[c]]
    | t :: ts => if c = sep then [] :: t :: ts else (c :: t) :: ts

/-- Leading and trailing spaces and tabs removed (44_filterpipeline.md R253). -/
def trimBlanks (t : List Char) : List Char :=
  let blank (c : Char) : Bool := c == ' ' || c == '\t'
  ((t.dropWhile blank).reverse.dropWhile blank).reverse

/-- The value of a non-empty string of decimal digits. -/
def digitsValue (t : List Char) : Option Nat :=
  if t ≠ [] ∧ t.all Char.isDigit then
    some (t.foldl (fun n c => 10 * n + (c.toNat - '0'.toNat)) 0)
  else none

/-- What one token of the drop list means (44_filterpipeline.md R253). -/
inductive DropToken where
  | ignored
  | range (lo hi : Nat)
  | malformed (text : List Char)
  deriving DecidableEq, Repr

/-- One trimmed token: empty, `n`, `a-b`, or malformed (44_filterpipeline.md R253). -/
def parseToken (t : List Char) : DropToken :=
  if t = [] then .ignored
  else
    match splitOnChar '-' t with
    | [a] =>
      match digitsValue a with
      | some n => .range n n
      | none => .malformed t
    | [a, b] =>
      match digitsValue a, digitsValue b with
      | some lo, some hi => .range lo hi
      | _, _ => .malformed t
    | _ => .malformed t

/-- The tokens of a drop list (44_filterpipeline.md R253). -/
def dropTokens (text : List Char) : List DropToken :=
  (splitOnChar ',' text).map fun t => parseToken (trimBlanks t)

/-- The largest position a push can have, 2^32 − 2 (44_filterpipeline.md R253). -/
def lastPosition : Nat := 2 ^ 32 - 2

/-- The non-empty range of positions of a token: `a > b` is empty, `b` is clamped, and a token past
the last position is dropped (44_filterpipeline.md R253). -/
def tokenRange : DropToken → Option (Nat × Nat)
  | .range lo hi => if lo ≤ hi ∧ lo ≤ lastPosition then some (lo, min hi lastPosition) else none
  | .ignored => none
  | .malformed _ => none

/-- Insertion of a range into a list sorted by lower end. -/
def insertRange (r : Nat × Nat) : List (Nat × Nat) → List (Nat × Nat)
  | [] => [r]
  | q :: qs => if r.1 ≤ q.1 then r :: q :: qs else q :: insertRange r qs

/-- Merging of a list sorted by lower end into the range `cur` and those after it: overlapping and
adjacent ranges become one (44_filterpipeline.md R254). -/
def mergeFrom (cur : Nat × Nat) : List (Nat × Nat) → List (Nat × Nat)
  | [] => [cur]
  | q :: qs =>
    if q.1 ≤ cur.2 + 1 then mergeFrom (cur.1, max cur.2 q.2) qs else cur :: mergeFrom q qs

/-- The merged, disjoint ranges of a list of ranges (44_filterpipeline.md R254). -/
def mergeRanges (rs : List (Nat × Nat)) : List (Nat × Nat) :=
  match rs.foldr insertRange [] with
  | [] => []
  | q :: qs => mergeFrom q qs

/-- The exclusion set of a drop list as merged ranges (44_filterpipeline.md R253, R254). -/
def exclusionRanges (text : List Char) : List (Nat × Nat) :=
  mergeRanges ((dropTokens text).filterMap tokenRange)

/-- The malformed tokens, each "skipped with a warning" (44_filterpipeline.md R253). -/
def dropWarnings (text : List Char) : List (List Char) :=
  (dropTokens text).filterMap fun t =>
    match t with
    | .malformed x => some x
    | .ignored => none
    | .range _ _ => none

/-! ### Configuration -/

/-- The collaborator's values (44_filterpipeline.md R255). -/
structure HostSettings where
  maxJumpMs : Option Int
  allowWrap : Option Bool
  chanMin : Vector (Option FloatVal) 18
  chanMax : Vector (Option FloatVal) 18
  dropPackets : List Char
  deriving DecidableEq, Repr

/-- Some channel bound is supplied (44_filterpipeline.md R255). -/
def HostSettings.anyBound (h : HostSettings) : Bool :=
  h.chanMin.toList.any Option.isSome || h.chanMax.toList.any Option.isSome

/-- The CTRL word of the settings (44_filterpipeline.md R255). -/
def HostSettings.ctrlWord (h : HostSettings) : Word :=
  (BitVec.ofBool h.maxJumpMs.isSome ++ BitVec.ofBool (h.allowWrap.getD false) ++
    BitVec.ofBool (!(exclusionRanges h.dropPackets).isEmpty) ++ BitVec.ofBool h.anyBound ++
    BitVec.ofBool (h.maxJumpMs.isSome || h.allowWrap.isSome) : BitVec 5).setWidth 32

/-- The writes of channel c's bounds: the enabled bounds, then RCTL (44_filterpipeline.md R251). -/
def HostSettings.boundWrites (h : HostSettings) (c : Fin 18) : List HostEvent :=
  let lo := minBoundOf h.chanMin[c]
  let hi := maxBoundOf h.chanMax[c]
  (lo.map fun x => wr (.rmin c) (u32 x)).toList ++
    (hi.map fun x => wr (.rmax c) (u32 x)).toList ++
    [wr (.rctl c) ((BitVec.ofBool hi.isSome ++ BitVec.ofBool lo.isSome : BitVec 2).setWidth 32)]

/-- The CAM writes of merged ranges: one entry per range, V cleared in the rest; none when they do
not fit, since the host must then not start the pass (44_filterpipeline.md R254). -/
def camWrites (nExcl : Nat) (ranges : List (Nat × Nat)) : Option (List HostEvent) :=
  if ranges.length ≤ nExcl then
    some ((List.finRange 64).flatMap fun k =>
      if k.val < nExcl then
        match ranges[k.val]? with
        | some r => excl k (BitVec.ofNat 32 r.1) (BitVec.ofNat 32 r.2)
        | none => [wr (.ectl k) 0#32]
      else [])
  else none

/-- All configuration writes of the settings (44_filterpipeline.md R255); none is the host's
configuration error (R254). They are issued through `configure`, while no pass is active. -/
def HostSettings.configWrites (config : Config) (h : HostSettings) : Option (List HostEvent) :=
  (camWrites config.nExcl (exclusionRanges h.dropPackets)).map fun cam =>
    [wr .ctrl h.ctrlWord] ++ (h.maxJumpMs.map fun m => wr .maxJump (u32 (clampS32 m))).toList ++
      (List.finRange 18).flatMap h.boundWrites ++ cam

/-- The accesses that configure the block in state `s`: an open pass is ended first, since
configuration written during a pass is lost (70_reset_and_hazards.md R344), so every write of R255
is made while no pass is active (44_filterpipeline.md R255, 43_batchdecoder.md R213; log entry 13).
A set that does not fit makes no access (R254). -/
def HostSettings.configure (h : HostSettings) (s : State) : Option (List HostEvent) :=
  (h.configWrites s.config).map fun writes =>
    (if s.passActive then endPassLine else []) ++ writes

/-! ### One run over a file -/

/-- Accesses issued one after another (20_memory.md R72). -/
def handleEvents : List HostEvent → State → Host.Outcome State Fault Refusal
  | [], s => .next s
  | e :: rest, s =>
    match handleEvent e s with
    | .next t => handleEvents rest t
    | .fault f => .fault f
    | .refused r => .refused r

/-- How a run ends (43_batchdecoder.md R213, R217). -/
inductive RunEnd where
  /-- `InputError`, before any command. -/
  | fileNotFound | fileEmpty | sizeNotDivisible
  /-- The exclusion set does not fit (44_filterpipeline.md R254). -/
  | configurationError
  /-- A command ended NO_PASS, SEQ_OVERFLOW or otherwise wrongly. -/
  | internalError
  /-- `EmptyResultError` (43_batchdecoder.md R217). -/
  | emptyResult
  | completed
  deriving DecidableEq, Repr

/-- The result of a run: how it ended, the accepted packets in order, and the state left. -/
structure RunReport where
  ending : RunEnd
  output : List (Vector Word 20)
  final : State
  deriving DecidableEq, Repr

/-- Record r of a file (43_batchdecoder.md R213). -/
def fileRecord (file : List Byte) (r : Nat) : Vector Byte 42 :=
  Vector.ofFn fun j => file.getD (42 * r + j.val) 0

/-- The loop of a run: LOADREC, DECODE_PUSH, and the accepted packet kept
(43_batchdecoder.md R213). -/
def runRecords : List (Vector Byte 42) → State → List (Vector Word 20) → RunReport
  | [], s, out =>
    match handleEvents endPassLine s with
    | .next t =>
      ⟨if t.decOk = 0 ∨ t.accCount = 0 then .emptyResult else .completed, out.reverse, t⟩
    | .fault _ => ⟨.internalError, out.reverse, s⟩
    | .refused _ => ⟨.internalError, out.reverse, s⟩
  | record :: rest, s, out =>
    match handleEvents (loadRec record ++ [issue .decodePush]) s with
    | .next t =>
      if t.result = .wrongLength ∨ t.result = .implausible then runRecords rest t out
      else if t.result ≠ .ok then ⟨.internalError, out.reverse, t⟩
      else runRecords rest t (if t.verdict = .accept then t.pkt :: out else out)
    | .fault _ => ⟨.internalError, out.reverse, s⟩
    | .refused _ => ⟨.internalError, out.reverse, s⟩

/-- `host_run(F)` (43_batchdecoder.md R213). The file is checked before any access; the filter
registers are configured while PASS_ACTIVE = 0. -/
def hostRun (h : HostSettings) (file : Option (List Byte)) (s : State) : RunReport :=
  match file with
  | none => ⟨.fileNotFound, [], s⟩
  | some bytes =>
    if bytes = [] then ⟨.fileEmpty, [], s⟩
    else if bytes.length % 42 ≠ 0 then ⟨.sizeNotDivisible, [], s⟩
    else
      match h.configure s with
      | none => ⟨.configurationError, [], s⟩
      | some config =>
        match handleEvents (config ++ passLine) s with
        | .next t => runRecords ((List.range (bytes.length / 42)).map (fileRecord bytes)) t []
        | .fault _ => ⟨.internalError, [], s⟩
        | .refused _ => ⟨.internalError, [], s⟩

end Sys2Proof.Machine
end

