-- ==== Sys2Proof/Safety.lean ====
section
/-! DEFINITION. What a safe state is: the invariants the spec states of every reachable state, and
the filter configuration that a pass locks. -/

namespace Sys2Proof.Machine

/-- The locked registers, the source's FilterState (10_state.md R58). -/
structure FilterState where
  ctrl : BitVec 5
  maxJump : Word
  chan : Vector ChanBound 18
  cam : Vector CamEntry 64
  deriving DecidableEq, Repr

/-- The filter configuration a state holds (10_state.md R58). -/
def State.filterState (s : State) : FilterState where
  ctrl := s.ctrl
  maxJump := s.maxJump
  chan := s.chan
  cam := s.cam

/-- The range the width and kind of a field give its PKT register (30_encoding.md R105). -/
def FieldKind.inRange (w : Nat) (v : Word) : FieldKind → Prop
  | .unsigned => uval v < 2 ^ w
  | .signed => -2 ^ (w - 1) ≤ s32 v ∧ s32 v < 2 ^ (w - 1)
  | .bitfield => uval v < 2 ^ w
  | .discarded => uval v < 2 ^ w

/-- The invariants of LTD-CORE, kept by every step. -/
structure State.Inv (s : State) : Prop where
  /-- The OPEN parameters are legal (00_scope.md R10). -/
  legal : s.config.Legal
  /-- `CUR_POS ≤ 8 × CUR_LEN` (10_state.md R34). -/
  cursor : s.curPos.val ≤ 8 * s.curLen.val
  /-- Every PKT register is in the range of its field (30_encoding.md R105). -/
  fields : ∀ j : Fin 20, layout[j].kind.inRange layout[j].width s.pkt[j]
  /-- The four verdict counters sum to SEQ_IDX, so none wraps (10_state.md R39, 44_filterpipeline.md
  R246). -/
  counts : s.accCount.toNat + s.dropTime.toNat + s.dropRange.toNat + s.dropManual.toNat
    = s.seqIdx.toNat
  /-- A valid packet failed no plausibility check (42_packetdecoder.md R182). -/
  plausible : s.pktValid = true → s.implWhy = 0#4
  /-- Only a valid packet has been pushed (44_filterpipeline.md R233). -/
  pushed : s.pktPushed = true → s.pktValid = true
  /-- The dummy diagnostic is of the held record (42_packetdecoder.md R184). -/
  dummy : s.diagDummy = true → s.pkt[5] ≠ 0#32
  /-- VERDICT is NONE exactly while no packet has been pushed (10_state.md R29). -/
  noPush : s.verdict = .noPush ↔ s.seqIdx = 0#32
  /-- A baseline exists only after a push (44_filterpipeline.md R242). -/
  baseline : s.prevValid = true → s.seqIdx ≠ 0#32
  /-- Without a baseline PREV_TIME is 0 (44_filterpipeline.md R231, R247). -/
  noBaseline : s.prevValid = false → s.prevTime = 0#24
  /-- CAM entries past N_EXCL do not exist and hold nothing (10_state.md R55). -/
  camEnd : ∀ k : Fin 64, s.config.nExcl ≤ k.val → s.cam[k] = CamEntry.reset

end Sys2Proof.Machine
end

