-- ==== Sys2Proof/Certificates/Slice0/Obligations.lean ====
section
/-! DEFINITION. The statements about LTD-CORE for the provers, each from the numbered rules of
spec/ that its docstring cites. A record update `{ s with … }` states the whole frame: every
register, flag, memory byte and own field of the model that it does not name is unchanged. -/

open Sys2Proof Sys2Proof.Machine

/-! ### Terms of the statements, written from the rules and not from the model's operations -/

/-- Bit k of a record as a number, `(RBUF[k div 8] >> (k mod 8)) & 1` (00_scope.md R15). -/
def Sys2Proof.Terms.bit (r : Vector Byte 42) (k : Nat) : Nat :=
  (r.toList.getD (k / 8) 0).toNat / 2 ^ (k % 8) % 2

/-- `Σ_{j<n} bit(p + j) · 2^j` (40_bitcursor.md R142, 30_encoding.md R101). -/
def Sys2Proof.Terms.bitsValue (r : Vector Byte 42) (p n : Nat) : Nat :=
  ∑ j ∈ Finset.range n, Sys2Proof.Terms.bit r (p + j) * 2 ^ j

/-- The signed reading of a w-bit raw field: raw from 2^(w−1) on counts down from 2^w
(00_scope.md R14). -/
def Sys2Proof.Terms.signedField (w raw : Nat) : Int :=
  if 2 ^ (w - 1) ≤ raw then (raw : Int) - 2 ^ w else raw

/-- IMPL_WHY from its four checks (42_packetdecoder.md R185, R186). -/
def Sys2Proof.Terms.why (press lat lon temp : Bool) : BitVec 4 :=
  BitVec.ofNat 4 (press.toNat + 2 * lat.toNat + 4 * lon.toNat + 8 * temp.toNat)

/-- The failing checks of a packet under the limits of s (42_packetdecoder.md R185). -/
def Sys2Proof.Terms.whyOf (s : State) (p : Vector Word 20) : BitVec 4 :=
  Sys2Proof.Terms.why
    (decide (s.vlimPress.toNat ≤ p[2].toNat))
    (decide ((s.vlimLat.toNat : Int) < |p[3].toInt|))
    (decide ((s.vlimLon.toNat : Int) < |p[4].toInt|))
    (decide ((s.vlimTemp.toNat : Int) < |p[1].toInt|))

/-- The PKT register of each channel, in channel order (10_state.md R50). -/
def Sys2Proof.Terms.channelRegs : Vector (Fin 20) 18 :=
  #v[0, 1, 2, 3, 4, 6, 7, 8, 9, 10, 11, 12, 13, 14, 16, 17, 18, 19]

/-- A comparison is made, and d is Δ after any wrap adjustment (44_filterpipeline.md R243). -/
def Sys2Proof.Terms.Compares (s : State) (d : Int) : Prop :=
  s.ctrl[0] = true ∧ s.prevValid = true ∧
    ((0 ≤ (s.pkt[0].toNat : Int) - s.prevTime.toNat ∨ s.ctrl[3] = false) ∧
        d = (s.pkt[0].toNat : Int) - s.prevTime.toNat ∨
      (s.pkt[0].toNat : Int) - s.prevTime.toNat < 0 ∧ s.ctrl[3] = true ∧
        d = (s.pkt[0].toNat : Int) - s.prevTime.toNat + 16777216)

/-- The time stage drops the packet (44_filterpipeline.md R241, R243). -/
def Sys2Proof.Terms.TimeDrops (s : State) : Prop :=
  ∃ d, Sys2Proof.Terms.Compares s d ∧
    (s.ctrl[4] = true ∧ s.maxJump.toInt < d ∨ d < 0 ∧ s.ctrl[3] = false)

/-- The range stage drops a packet that reaches it (44_filterpipeline.md R248 to R250). -/
def Sys2Proof.Terms.RangeDrops (s : State) : Prop :=
  s.ctrl[1] = true ∧ ∃ c : Fin 18,
    (s.chan[c].ctl[0] = true ∧
        s.pkt[Sys2Proof.Terms.channelRegs[c]].toInt < s.chan[c].min.toInt ∨
      s.chan[c].ctl[1] = true ∧
        s.chan[c].max.toInt < s.pkt[Sys2Proof.Terms.channelRegs[c]].toInt)

/-- The manual stage drops a packet that reaches it (44_filterpipeline.md R252). -/
def Sys2Proof.Terms.ManualDrops (s : State) : Prop :=
  s.ctrl[2] = true ∧ ∃ k : Fin 64, k.val < s.config.nExcl ∧ s.cam[k].ctl[0] = true ∧
    s.cam[k].lo.toNat ≤ s.seqIdx.toNat ∧ s.seqIdx.toNat ≤ s.cam[k].hi.toNat

/-- t is s after its held packet was pushed: `push_body` of 44_filterpipeline.md R234, then OK. -/
structure Sys2Proof.Terms.Pushed (s t : State) : Prop where
  dropTime : t.verdict = .dropTime ↔ Sys2Proof.Terms.TimeDrops s
  dropRange : t.verdict = .dropRange ↔
    ¬ Sys2Proof.Terms.TimeDrops s ∧ Sys2Proof.Terms.RangeDrops s
  dropManual : t.verdict = .dropManual ↔
    ¬ Sys2Proof.Terms.TimeDrops s ∧ ¬ Sys2Proof.Terms.RangeDrops s ∧
      Sys2Proof.Terms.ManualDrops s
  accept : t.verdict = .accept ↔
    ¬ Sys2Proof.Terms.TimeDrops s ∧ ¬ Sys2Proof.Terms.RangeDrops s ∧
      ¬ Sys2Proof.Terms.ManualDrops s
  delta : ∀ d, Sys2Proof.Terms.Compares s d → t.lastDelta = BitVec.ofInt 32 d
  noDelta : (∀ d, ¬ Sys2Proof.Terms.Compares s d) → t.lastDelta = 0#32
  baseline : s.ctrl[0] = true ∧ ¬ Sys2Proof.Terms.TimeDrops s ∧
      (s.config.prevOnFinal = false ∨ t.verdict = .accept) →
    t.prevTime = BitVec.ofNat 24 s.pkt[0].toNat ∧ t.prevValid = true
  noBaseline : ¬ (s.ctrl[0] = true ∧ ¬ Sys2Proof.Terms.TimeDrops s ∧
      (s.config.prevOnFinal = false ∨ t.verdict = .accept)) →
    t.prevTime = s.prevTime ∧ t.prevValid = s.prevValid
  accCount : t.accCount = if t.verdict = .accept then s.accCount + 1#32 else s.accCount
  dropTimeCount : t.dropTime = if t.verdict = .dropTime then s.dropTime + 1#32 else s.dropTime
  dropRangeCount : t.dropRange = if t.verdict = .dropRange then s.dropRange + 1#32 else s.dropRange
  dropManualCount :
    t.dropManual = if t.verdict = .dropManual then s.dropManual + 1#32 else s.dropManual
  frame : t = { s with
    lastDelta := t.lastDelta, prevTime := t.prevTime, prevValid := t.prevValid,
    accCount := t.accCount, dropTime := t.dropTime, dropRange := t.dropRange,
    dropManual := t.dropManual, verdict := t.verdict, pktPushed := true,
    seqIdx := s.seqIdx + 1#32, result := .ok }

/-- The values of STATUS.VERDICT (10_state.md R29). -/
def Sys2Proof.Terms.verdictCode : Verdict → Nat
  | .noPush => 0
  | .accept => 1
  | .dropTime => 2
  | .dropRange => 3
  | .dropManual => 4

/-- The values of RESULT.CODE (60_exceptions.md R300). -/
def Sys2Proof.Terms.resultCode : ResultCode → Nat
  | .ok => 0
  | .illegalCmd => 1
  | .operandRange => 2
  | .outOfRange => 3
  | .wrongLength => 4
  | .implausible => 5
  | .noPass => 6
  | .notValid => 7
  | .seqOverflow => 8

/-- The next event is a 32-bit host write of v at offset a (20_memory.md R75). -/
def Sys2Proof.Terms.NextWrite (s : State) (a : Nat) (v : Word) (rest : List HostEvent) : Prop :=
  s.bus.pending = .write (BitVec.ofNat 12 a) 32 v :: rest

/-- s after a host write that is answered without error, the answer held as log entry 3 says. -/
def Sys2Proof.Terms.answered (s : State) (rest : List HostEvent) : State :=
  { s with bus := ⟨rest, some ⟨none, false⟩⟩ }

/-- The value every register reads after a reset, RBUF words apart (10_state.md section 2, R62). -/
def Sys2Proof.Terms.resetReading : Reg → Word
  | .id => 0x4C544443#32
  | .version => 1#32
  | .status => 0x1000#32
  | .vlimPress => 0x00100000#32
  | .vlimLat => 0x35A4E900#32
  | .vlimLon => 0x6B49D200#32
  | .vlimTemp => 0x000186A0#32
  | .cmd | .result | .err | .ctrl | .maxJump | .rlen | .curPos | .curLen | .curLeft => 0#32
  | .curData | .sxIn | .sxOut | .prevTime | .seqIdx | .accCount | .dropTime | .dropRange => 0#32
  | .dropManual | .lastDelta | .decOk | .decFail | .pkt _ | .rctl _ | .rmin _ | .rmax _ => 0#32
  | .ectl _ | .elo _ | .ehi _ | .rbuf _ => 0#32

/-- The register exists in this block: a CAM entry needs `k < N_EXCL` (10_state.md R55). -/
def Sys2Proof.Terms.Exists (config : Config) : Reg → Prop
  | .ectl k => k.val < config.nExcl
  | .elo k => k.val < config.nExcl
  | .ehi k => k.val < config.nExcl
  | _ => True

/-- The next event is the CMD write of a word that is command i (20_memory.md R75). -/
def Sys2Proof.Terms.NextCommand (s : State) (i : Instr) : Prop :=
  ∃ w rest, s.bus.pending = .write 0x008#12 32 w :: rest ∧ decode w = .ok i

/-- The next event is the hardware reset (70_reset_and_hazards.md R340). -/
def Sys2Proof.Terms.NextReset (s : State) : Prop :=
  ∃ rest, s.bus.pending = .hardReset :: rest

/-! ### Control commands and resets -/

/-- NOP writes RESULT.CODE ← OK and nothing else (45_control.md R270). -/
def Obligations.NopOnlyWritesResultOk : Prop :=
  ∀ s : State, exec .nop s = .next { s with result := .ok }

/-- SOFT_RESET puts every register but RBUF at its reset value and ends OK (45_control.md R272);
the outside world and the parameters stay. -/
def Obligations.SoftResetRestoresEveryRegisterButRbuf : Prop :=
  ∀ s : State, ∃ t, exec .softReset s = .next t ∧
    (∀ r, (∀ w, r ≠ .rbuf w) → t.readReg r = Sys2Proof.Terms.resetReading r) ∧
    t.result = .ok ∧ t.rbuf = s.rbuf ∧
    t.bus = s.bus ∧ t.config = s.config ∧ t.resets = s.resets

/-- The hardware reset puts every register but RBUF at its reset value (10_state.md R62,
70_reset_and_hazards.md R340); nothing is said of RBUF (log entry 4). -/
def Obligations.HardwareResetRestoresEveryRegisterButRbuf : Prop :=
  ∀ (s : State) (rest : List HostEvent), s.bus.pending = .hardReset :: rest →
    ∃ t, step s = .next t ∧
      (∀ r, (∀ w, r ≠ .rbuf w) → t.readReg r = Sys2Proof.Terms.resetReading r) ∧
      t.config = s.config ∧ t.bus.pending = rest

/-- The state after the first reset reads the reset values (10_state.md R62). Its parameters are
the model's choice, the spec's defaults (log entry 6). -/
def Obligations.ResetStateReadsTheResetValues : Prop :=
  (∀ r, (∀ w, r ≠ .rbuf w) → State.reset.readReg r = Sys2Proof.Terms.resetReading r) ∧
    State.reset.bus.pending = []

/-! ### Encoding -/

/-- Decoding the word of a well-formed command gives it back, operand and all. -/
def Obligations.DecodeUndoesEncode : Prop :=
  ∀ i : Instr, i.WellFormed → decode (encode i) = .ok i

/-- A word that decodes is the one word of its command (30_encoding.md R110, R112). -/
def Obligations.EveryCommandHasOneWord : Prop :=
  ∀ (w : Word) (i : Instr), decode w = .ok i → i.WellFormed ∧ encode i = w

/-- Words of the opcode map decode to their commands (30_encoding.md R112). -/
def Obligations.OpcodeMapWordsDecode : Prop :=
  decode 0x00000000#32 = .ok .nop ∧ decode 0x00000001#32 = .ok .curReset ∧
    decode 0x00001802#32 = .ok (.curRead 24) ∧ decode 0x00000E03#32 = .ok (.sext 14) ∧
    decode 0x00000010#32 = .ok .decode ∧ decode 0x00000011#32 = .ok .decodePush ∧
    decode 0x00000020#32 = .ok .filterBegin ∧ decode 0x00000021#32 = .ok .filterPush ∧
    decode 0x00000022#32 = .ok .filterEnd ∧ decode 0x000000FF#32 = .ok .softReset

/-- Exactly the words of 30_encoding.md R114 are illegal; each executes nothing and ends
ILLEGAL_CMD (45_control.md R271, 60_exceptions.md R301). -/
def Obligations.IllegalWordsChangeOnlyResultAndErr : Prop :=
  ∀ (w : Word) (s : State),
    ((∃ e, decode w = .error e) ↔
      w.toNat % 256 ∉ [0x00, 0x01, 0x02, 0x03, 0x10, 0x11, 0x20, 0x21, 0x22, 0xFF] ∨
      w.toNat / 65536 ≠ 0 ∨
      (w.toNat / 256 % 256 ≠ 0 ∧ w.toNat % 256 ∉ [0x02, 0x03])) ∧
    ((∃ e, decode w = .error e) →
      executeCommand w s = .next { s with result := .illegalCmd, err := s.err ||| 0x001#10 })

/-! ### The cursor -/

/-- CUR_RESET (40_bitcursor.md R145). -/
def Obligations.CurResetLatchesRlenOrEndsOperandRange : Prop :=
  ∀ s : State,
    (42 < s.rlen.toNat →
      exec .curReset s = .next { s with result := .operandRange, err := s.err ||| 0x002#10 }) ∧
    (s.rlen.toNat ≤ 42 → ∃ t, exec .curReset s = .next t ∧
      t.curLen.val = s.rlen.toNat ∧ t.curPos.val = 0 ∧
      t = { s with curLen := t.curLen, curPos := t.curPos, result := .ok })

/-- CUR_READ n (40_bitcursor.md R146, R142, 60_exceptions.md R303). -/
def Obligations.CurReadReadsTheNextBitsOrEndsWithItsCode : Prop :=
  ∀ (s : State) (n : Nat),
    (32 < n →
      exec (.curRead n) s = .next { s with result := .operandRange, err := s.err ||| 0x002#10 }) ∧
    (n ≤ 32 → 8 * s.curLen.val < s.curPos.val + n →
      exec (.curRead n) s = .next { s with result := .outOfRange, err := s.err ||| 0x004#10 }) ∧
    (n ≤ 32 → s.curPos.val + n ≤ 8 * s.curLen.val → ∃ t, exec (.curRead n) s = .next t ∧
      t.curData.toNat = Sys2Proof.Terms.bitsValue s.rbuf s.curPos.val n ∧
      t.curPos.val = s.curPos.val + n ∧
      t = { s with curData := t.curData, curPos := t.curPos, result := .ok })

/-- The chunk algorithm of CUR_READ computes the bit sum (40_bitcursor.md R142). -/
def Obligations.ChunkAlgorithmComputesTheBitSum : Prop :=
  ∀ (r : Vector Byte 42) (p n : Nat),
    readBitsInChunks r p n = Sys2Proof.Terms.bitsValue r p n

/-- The split law (40_bitcursor.md R147). -/
def Obligations.SplitReadsEqualOneRead : Prop :=
  ∀ (s : State) (n1 n2 : Nat), n1 + n2 ≤ 32 → s.curPos.val + (n1 + n2) ≤ 8 * s.curLen.val →
    ∃ a b c, exec (.curRead n1) s = .next a ∧ exec (.curRead n2) a = .next b ∧
      exec (.curRead (n1 + n2)) s = .next c ∧ b.curPos = c.curPos ∧
      c.curData.toNat = a.curData.toNat + b.curData.toNat * 2 ^ n1

/-- Only CUR_READ, CUR_RESET, a decode and a reset change CUR_POS (40_bitcursor.md R141). -/
def Obligations.OnlyCursorAndDecodeCommandsMoveTheCursor : Prop :=
  ∀ s t : State, step s = .next t → t.curPos ≠ s.curPos →
    Sys2Proof.Terms.NextReset s ∨ ∃ i, Sys2Proof.Terms.NextCommand s i ∧
      (i = .curReset ∨ (∃ n, i = .curRead n) ∨ i = .decode ∨ i = .decodePush ∨ i = .softReset)

/-! ### Sign extension -/

/-- SEXT bits (41_fieldcodec.md R160). -/
def Obligations.SextSignExtendsOrEndsOperandRange : Prop :=
  ∀ (s : State) (b : Nat),
    (b = 0 ∨ 32 < b ∨ 2 ^ b ≤ s.sxIn.toNat →
      exec (.sext b) s = .next { s with result := .operandRange, err := s.err ||| 0x002#10 }) ∧
    (1 ≤ b → b ≤ 32 → s.sxIn.toNat < 2 ^ b → ∃ t, exec (.sext b) s = .next t ∧
      t.sxOut.toInt = Sys2Proof.Terms.signedField b s.sxIn.toNat ∧
      t = { s with sxOut := t.sxOut, result := .ok })

/-- The required laws of sign extension, for every width 1..32 (41_fieldcodec.md R161). -/
def Obligations.SextLawsAtTheBoundaryValues : Prop :=
  ∀ (s : State) (b : Nat), 1 ≤ b → b ≤ 32 →
    ∀ v : Nat, s.sxIn.toNat = v →
      (v = 0 → ∃ t, exec (.sext b) s = .next t ∧ t.sxOut.toInt = 0) ∧
      (v = 2 ^ (b - 1) → ∃ t, exec (.sext b) s = .next t ∧ t.sxOut.toInt = -2 ^ (b - 1)) ∧
      (v = 2 ^ b - 1 → ∃ t, exec (.sext b) s = .next t ∧ t.sxOut.toInt = -1) ∧
      (v = 2 ^ (b - 1) - 1 →
        ∃ t, exec (.sext b) s = .next t ∧ t.sxOut.toInt = 2 ^ (b - 1) - 1)

/-! ### The packet decoder -/

/-- Each PKT register holds the field of the record table at its bits (30_encoding.md R100, R101,
41_fieldcodec.md R164). -/
def Obligations.DecodedFieldsAreTheRecordTable : Prop :=
  ∀ r : Vector Byte 42,
    let v := Sys2Proof.Terms.bitsValue r
    let sg := fun o w => Sys2Proof.Terms.signedField w (v o w)
    let p := decodedFields r
    p[0].toNat = v 0 24 ∧ p[1].toInt = sg 24 14 ∧ p[2].toNat = v 38 20 ∧
    p[3].toInt = sg 58 30 ∧ p[4].toInt = sg 88 30 ∧ p[5].toNat = v 118 2 ∧
    p[6].toInt = sg 120 16 ∧ p[7].toInt = sg 136 16 ∧ p[8].toInt = sg 152 16 ∧
    p[9].toInt = sg 168 16 ∧ p[10].toInt = sg 184 16 ∧ p[11].toInt = sg 200 16 ∧
    p[12].toInt = sg 216 16 ∧ p[13].toInt = sg 232 16 ∧ p[14].toInt = sg 248 16 ∧
    p[15].toNat = v 264 8 ∧ p[16].toNat = v 272 16 ∧ p[17].toNat = v 288 16 ∧
    p[18].toNat = v 304 16 ∧ p[19].toNat = v 320 16

/-- The byte-level forms of the fields (30_encoding.md R102). -/
def Obligations.DecodedFieldsAreTheByteForms : Prop :=
  ∀ r : Vector Byte 42,
    let b := fun j => (r.toList.getD j 0).toNat
    let sg := Sys2Proof.Terms.signedField
    let p := decodedFields r
    p[0].toNat = b 0 + b 1 * 2 ^ 8 + b 2 * 2 ^ 16 ∧
    p[1].toInt = sg 14 (b 3 + b 4 % 64 * 2 ^ 8) ∧
    p[2].toNat = b 4 / 2 ^ 6 + b 5 * 2 ^ 2 + b 6 * 2 ^ 10 + b 7 % 4 * 2 ^ 18 ∧
    p[3].toInt = sg 30 (b 7 / 2 ^ 2 + b 8 * 2 ^ 6 + b 9 * 2 ^ 14 + b 10 * 2 ^ 22) ∧
    p[4].toInt = sg 30 (b 11 + b 12 * 2 ^ 8 + b 13 * 2 ^ 16 + b 14 % 64 * 2 ^ 24) ∧
    p[5].toNat = b 14 / 2 ^ 6 ∧
    p[6].toInt = sg 16 (b 15 + b 16 * 2 ^ 8) ∧ p[7].toInt = sg 16 (b 17 + b 18 * 2 ^ 8) ∧
    p[8].toInt = sg 16 (b 19 + b 20 * 2 ^ 8) ∧ p[9].toInt = sg 16 (b 21 + b 22 * 2 ^ 8) ∧
    p[10].toInt = sg 16 (b 23 + b 24 * 2 ^ 8) ∧ p[11].toInt = sg 16 (b 25 + b 26 * 2 ^ 8) ∧
    p[12].toInt = sg 16 (b 27 + b 28 * 2 ^ 8) ∧ p[13].toInt = sg 16 (b 29 + b 30 * 2 ^ 8) ∧
    p[14].toInt = sg 16 (b 31 + b 32 * 2 ^ 8) ∧ p[15].toNat = b 33 ∧
    p[16].toNat = b 34 + b 35 * 2 ^ 8 ∧ p[17].toNat = b 36 + b 37 * 2 ^ 8 ∧
    p[18].toNat = b 38 + b 39 * 2 ^ 8 ∧ p[19].toNat = b 40 + b 41 * 2 ^ 8

/-- The value ranges of the fields (30_encoding.md R105). -/
def Obligations.DecodedFieldsFitTheirWidths : Prop :=
  ∀ r : Vector Byte 42,
    let p := decodedFields r
    p[0].toNat ≤ 16777215 ∧ (-8192 ≤ p[1].toInt ∧ p[1].toInt ≤ 8191) ∧ p[2].toNat ≤ 1048575 ∧
    (∀ j : Fin 20, j.val = 3 ∨ j.val = 4 →
      -536870912 ≤ p[j].toInt ∧ p[j].toInt ≤ 536870911) ∧
    p[5].toNat ≤ 3 ∧
    (∀ j : Fin 20, 6 ≤ j.val → j.val ≤ 14 → -32768 ≤ p[j].toInt ∧ p[j].toInt ≤ 32767) ∧
    p[15].toNat ≤ 255 ∧ (∀ j : Fin 20, 16 ≤ j.val → p[j].toNat ≤ 65535)

/-- DECODE (42_packetdecoder.md R181, with the cursor of R183, the diagnostic of R184 and the checks
of R185 and R186; 60_exceptions.md R304). -/
def Obligations.DecodeHoldsThePacketOrEndsWithItsCode : Prop :=
  ∀ s : State,
    let p := decodedFields s.rbuf
    let why := Sys2Proof.Terms.whyOf s p
    (s.rlen ≠ 42#8 →
      exec .decode s = .next { s with
        pktValid := false, pktPushed := false, diagDummy := false, implWhy := 0#4,
        decFail := s.decFail + 1#32, result := .wrongLength, err := s.err ||| 0x008#10 }) ∧
    (s.rlen = 42#8 → why ≠ 0#4 →
      exec .decode s = .next { s with
        curLen := 42, curPos := 336, pkt := p, pktValid := false, pktPushed := false,
        diagDummy := decide (p[5] ≠ 0#32), implWhy := why, decFail := s.decFail + 1#32,
        result := .implausible, err := s.err ||| 0x010#10 }) ∧
    (s.rlen = 42#8 → why = 0#4 →
      exec .decode s = .next { s with
        curLen := 42, curPos := 336, pkt := p, pktValid := true, pktPushed := false,
        diagDummy := decide (p[5] ≠ 0#32), implWhy := 0#4, decOk := s.decOk + 1#32, result := .ok })

/-- No record is implausible at the reset limits or at wider ones (42_packetdecoder.md R187). -/
def Obligations.NoRecordIsImplausibleAtWideLimits : Prop :=
  ∀ s : State, s.rlen = 42#8 →
    (s.vlimPress = 0x00100000#32 ∧ s.vlimLat = 900000000#32 ∧ s.vlimLon = 1800000000#32 ∧
        s.vlimTemp = 100000#32 ∨
      2 ^ 20 ≤ s.vlimPress.toNat ∧ 8192 ≤ s.vlimTemp.toNat ∧ 2 ^ 29 ≤ s.vlimLat.toNat ∧
        2 ^ 29 ≤ s.vlimLon.toNat) →
    ∃ t, exec .decode s = .next t ∧ t.result = .ok ∧ t.pktValid = true ∧ t.implWhy = 0#4

/-- A decode reads only RBUF, RLEN and the limits: two blocks that agree on them get the same
outcome (43_batchdecoder.md R215). -/
def Obligations.DecodeOutcomeDependsOnlyOnTheRecordAndLimits : Prop :=
  ∀ s t : State, s.rbuf = t.rbuf → s.rlen = t.rlen → s.vlimPress = t.vlimPress →
    s.vlimLat = t.vlimLat → s.vlimLon = t.vlimLon → s.vlimTemp = t.vlimTemp →
    ∃ s' t', exec .decode s = .next s' ∧ exec .decode t = .next t' ∧
      s'.result = t'.result ∧ s'.pktValid = t'.pktValid ∧ s'.pktPushed = t'.pktPushed ∧
      s'.diagDummy = t'.diagDummy ∧ s'.implWhy = t'.implWhy ∧
      (s'.result ≠ .wrongLength →
        s'.pkt = t'.pkt ∧ s'.curLen = t'.curLen ∧ s'.curPos = t'.curPos)

/-- Only a decode that reaches the fields, or a reset, changes the PKT registers (10_state.md R40,
70_reset_and_hazards.md R350). -/
def Obligations.OnlyDecodesAndResetsChangeThePacket : Prop :=
  ∀ s t : State, step s = .next t → t.pkt ≠ s.pkt →
    Sys2Proof.Terms.NextReset s ∨ Sys2Proof.Terms.NextCommand s .softReset ∨
      (s.rlen = 42#8 ∧
        (Sys2Proof.Terms.NextCommand s .decode ∨ Sys2Proof.Terms.NextCommand s .decodePush))

/-! ### The batch step -/

/-- DECODE_PUSH outside a pass or at the last position changes only RESULT and ERR; otherwise it is
DECODE and then, when that ended OK, FILTER_PUSH (43_batchdecoder.md R211, R212). -/
def Obligations.DecodePushIsDecodeThenFilterPush : Prop :=
  ∀ s : State,
    (s.passActive = false →
      exec .decodePush s = .next { s with result := .noPass, err := s.err ||| 0x020#10 }) ∧
    (s.passActive = true → s.seqIdx = 0xFFFFFFFF#32 →
      exec .decodePush s = .next { s with result := .seqOverflow, err := s.err ||| 0x080#10 }) ∧
    (s.passActive = true → s.seqIdx ≠ 0xFFFFFFFF#32 → ∃ d, exec .decode s = .next d ∧
      (d.result = .ok → ∃ t, exec .filterPush d = .next t ∧ t.result = .ok ∧
        exec .decodePush s = .next t) ∧
      (d.result ≠ .ok → (d.result = .wrongLength ∨ d.result = .implausible) ∧
        exec .decodePush s = .next d ∧
        exec .filterPush d = .next { d with result := .notValid, err := d.err ||| 0x040#10 }))

/-- In a pass, below the last position, a plausible 42-byte record is decoded and pushed
(43_batchdecoder.md R211). -/
def Obligations.DecodePushPushesAPlausibleRecord : Prop :=
  ∀ s : State, s.passActive = true → s.seqIdx ≠ 0xFFFFFFFF#32 → s.rlen = 42#8 →
    Sys2Proof.Terms.whyOf s (decodedFields s.rbuf) = 0#4 →
    ∃ t, exec .decodePush s = .next t ∧
      Sys2Proof.Terms.Pushed { s with
        curLen := 42, curPos := 336, pkt := decodedFields s.rbuf, pktValid := true,
        pktPushed := false, diagDummy := decide ((decodedFields s.rbuf)[5] ≠ 0#32), implWhy := 0#4,
        decOk := s.decOk + 1#32 } t

/-! ### The filter pipeline -/

/-- FILTER_BEGIN (44_filterpipeline.md R231). -/
def Obligations.FilterBeginStartsAFreshPass : Prop :=
  ∀ s : State, exec .filterBegin s = .next { s with
    passActive := true, prevValid := false, prevTime := 0#24, seqIdx := 0#32, accCount := 0#32,
    dropTime := 0#32, dropRange := 0#32, dropManual := 0#32, decOk := 0#32, decFail := 0#32,
    lastDelta := 0#32, verdict := .noPush, result := .ok }

/-- FILTER_END (44_filterpipeline.md R240). -/
def Obligations.FilterEndOnlyEndsThePass : Prop :=
  ∀ s : State, exec .filterEnd s = .next { s with passActive := false, result := .ok }

/-- FILTER_PUSH (44_filterpipeline.md R233, R234), with the priority of 60_exceptions.md R303. -/
def Obligations.FilterPushGivesTheVerdictOrEndsWithItsCode : Prop :=
  ∀ s : State,
    (s.passActive = false →
      exec .filterPush s = .next { s with result := .noPass, err := s.err ||| 0x020#10 }) ∧
    (s.passActive = true → s.pktValid = false ∨ s.pktPushed = true →
      exec .filterPush s = .next { s with result := .notValid, err := s.err ||| 0x040#10 }) ∧
    (s.passActive = true → s.pktValid = true → s.pktPushed = false → s.seqIdx = 0xFFFFFFFF#32 →
      exec .filterPush s = .next { s with result := .seqOverflow, err := s.err ||| 0x080#10 }) ∧
    (s.passActive = true → s.pktValid = true → s.pktPushed = false → s.seqIdx ≠ 0xFFFFFFFF#32 →
      ∃ t, exec .filterPush s = .next t ∧ Sys2Proof.Terms.Pushed s t)

/-- With wrap allowed no packet fails for going backwards, and with no jump limit either the time
stage passes every packet; a repeated time passes unless the limit is on and negative
(44_filterpipeline.md R243). -/
def Obligations.TimeStageConsequences : Prop :=
  ∀ s : State, s.passActive = true → s.pktValid = true → s.pktPushed = false →
    s.seqIdx ≠ 0xFFFFFFFF#32 →
    ∃ t, exec .filterPush s = .next t ∧
      (s.prevValid = false → t.verdict ≠ .dropTime ∧ t.lastDelta = 0#32) ∧
      (s.ctrl[3] = true → s.ctrl[4] = false → t.verdict ≠ .dropTime) ∧
      (s.pkt[0].toNat = s.prevTime.toNat → s.ctrl[4] = false ∨ 0 ≤ s.maxJump.toInt →
        t.verdict ≠ .dropTime) ∧
      (s.ctrl[0] = false → t.verdict ≠ .dropTime ∧ t.lastDelta = 0#32 ∧
        t.prevTime = s.prevTime ∧ t.prevValid = s.prevValid)

/-- LAST_DELTA is in (−2^24, 2^24), and not negative when wrap is allowed
(44_filterpipeline.md R244). -/
def Obligations.TimeDifferenceNeverWraps : Prop :=
  ∀ s t : State, s.Inv → s.passActive = true → s.pktValid = true → s.pktPushed = false →
    s.seqIdx ≠ 0xFFFFFFFF#32 → exec .filterPush s = .next t →
    -2 ^ 24 < t.lastDelta.toInt ∧ t.lastDelta.toInt < 2 ^ 24 ∧
      (s.ctrl[3] = true → 0 ≤ t.lastDelta.toInt)

/-- The verdict of a push is a function of the packet, its position, the configuration and the
baseline alone (44_filterpipeline.md R256). -/
def Obligations.VerdictDependsOnlyOnThePushAndItsPass : Prop :=
  ∀ s t : State, s.pkt = t.pkt → s.seqIdx = t.seqIdx → s.filterState = t.filterState →
    s.config = t.config → s.prevValid = t.prevValid → s.prevTime = t.prevTime →
    s.passActive = true → t.passActive = true → s.pktValid = true → t.pktValid = true →
    s.pktPushed = false → t.pktPushed = false → s.seqIdx ≠ 0xFFFFFFFF#32 →
    ∃ s' t', exec .filterPush s = .next s' ∧ exec .filterPush t = .next t' ∧
      s'.verdict = t'.verdict ∧ s'.prevValid = t'.prevValid ∧ s'.prevTime = t'.prevTime ∧
      s'.lastDelta = t'.lastDelta ∧ s'.seqIdx = t'.seqIdx

/-- The two values of P_PREV_ON_FINAL leave a push alike unless the packet passes the time stage and
a later stage drops it (44_filterpipeline.md R247). -/
def Obligations.BaselinePolicyMattersOnlyForLateDrops : Prop :=
  ∀ s t : State, exec .filterPush s = .next t → t.result = .ok →
    t.verdict ≠ .dropRange → t.verdict ≠ .dropManual →
    ∀ b : Bool, exec .filterPush { s with config := ⟨s.config.nExcl, b⟩ } =
      .next { t with config := ⟨s.config.nExcl, b⟩ }

/-- During a pass no step changes the filter configuration unless it ends the pass
(44_filterpipeline.md R232, 10_state.md R58). -/
def Obligations.ConfigurationIsFixedDuringAPass : Prop :=
  ∀ s t : State, step s = .next t → s.passActive = true → t.passActive = true →
    t.filterState = s.filterState

/-- PREV_TIME, PREV_VALID and SEQ_IDX are written only by FILTER_BEGIN, a push and a reset
(10_state.md R38, 44_filterpipeline.md R258). -/
def Obligations.OnlyPassCommandsChangeThePipelineState : Prop :=
  ∀ s t : State, step s = .next t →
    (t.prevTime ≠ s.prevTime ∨ t.prevValid ≠ s.prevValid ∨ t.seqIdx ≠ s.seqIdx) →
    Sys2Proof.Terms.NextReset s ∨ ∃ i, Sys2Proof.Terms.NextCommand s i ∧
      (i = .filterBegin ∨ i = .filterPush ∨ i = .decodePush ∨ i = .softReset)

/-! ### Result codes and the whole machine -/

/-- The table of result codes (60_exceptions.md R300), read from the RESULT register: each code with
exactly its causes in the order of R303, the ERR bit of the code set, and no code above 8;
SOFT_RESET alone clears ERR (45_control.md R272, R273). -/
def Obligations.EveryResultCodeHasItsCauseAndErrBit : Prop :=
  ∀ (w : Word) (s : State), ∃ t, executeCommand w s = .next t ∧
    (decode w = .ok .softReset → t.readReg .result = 0#32 ∧ t.err = 0#10) ∧
    (decode w ≠ .ok .softReset →
      t.err = if t.readReg .result = 0#32 then s.err
        else s.err ||| BitVec.ofNat 10 (2 ^ ((t.readReg .result).toNat - 1))) ∧
    (t.readReg .result = 1#32 ↔ ∃ e, decode w = .error e) ∧
    (t.readReg .result = 2#32 ↔
      (decode w = .ok .curReset ∧ 42 < s.rlen.toNat) ∨
      (∃ n, decode w = .ok (.curRead n) ∧ 32 < n) ∨
      (∃ b, decode w = .ok (.sext b) ∧ (b = 0 ∨ 32 < b ∨ 2 ^ b ≤ s.sxIn.toNat))) ∧
    (t.readReg .result = 3#32 ↔ ∃ n, decode w = .ok (.curRead n) ∧ n ≤ 32 ∧
      8 * s.curLen.val < s.curPos.val + n) ∧
    (t.readReg .result = 4#32 ↔ s.rlen ≠ 42#8 ∧
      (decode w = .ok .decode ∨
        decode w = .ok .decodePush ∧ s.passActive = true ∧ s.seqIdx ≠ 0xFFFFFFFF#32)) ∧
    (t.readReg .result = 5#32 ↔ s.rlen = 42#8 ∧
      Sys2Proof.Terms.whyOf s (decodedFields s.rbuf) ≠ 0#4 ∧
      (decode w = .ok .decode ∨
        decode w = .ok .decodePush ∧ s.passActive = true ∧ s.seqIdx ≠ 0xFFFFFFFF#32)) ∧
    (t.readReg .result = 6#32 ↔ s.passActive = false ∧
      (decode w = .ok .filterPush ∨ decode w = .ok .decodePush)) ∧
    (t.readReg .result = 7#32 ↔ decode w = .ok .filterPush ∧ s.passActive = true ∧
      (s.pktValid = false ∨ s.pktPushed = true)) ∧
    (t.readReg .result = 8#32 ↔ s.passActive = true ∧ s.seqIdx = 0xFFFFFFFF#32 ∧
      (decode w = .ok .filterPush ∧ s.pktValid = true ∧ s.pktPushed = false ∨
        decode w = .ok .decodePush)) ∧
    (t.readReg .result).toNat ≤ 8

/-- When the next access is a CMD write of a word that decodes to i, the step is i at the state the
access leaves: the access taken off, the write answered without error (10_state.md R25,
20_memory.md R75). When the word decodes to nothing, the step ends ILLEGAL_CMD
(30_encoding.md R113). -/
def Obligations.StepRunsTheDecodedCommand : Prop :=
  ∀ (s : State) (w : Word) (rest : List HostEvent),
    s.bus.pending = .write 0x008#12 32 w :: rest →
    (∀ i, decode w = .ok i →
      step s = exec i { s with bus := ⟨rest, some ⟨none, false⟩⟩ }) ∧
    (∀ e, decode w = .error e →
      step s = .next { s with
        result := .illegalCmd, err := s.err ||| 0x001#10,
        bus := ⟨rest, some ⟨none, false⟩⟩ })

/-- Every step answers a next state: no access and no command stops the block or waits
(60_exceptions.md R305, 70_reset_and_hazards.md R361); with nothing issued it holds its state
(60_exceptions.md R318, the model's reading in log entry 2). -/
def Obligations.EveryStepAnswersANextState : Prop :=
  ∀ s : State, ∃ t, step s = .next t ∧ (s.bus.pending = [] → t = s) ∧
    (∀ e rest, s.bus.pending = e :: rest → t.bus.pending = rest) ∧ t.config = s.config

/-- The invariants hold after the first reset. Its parameters are the spec's defaults (log
entry 6). -/
def Obligations.ResetStateMeetsTheInvariants : Prop := State.reset.Inv

/-- Every step keeps the invariants: the cursor bound, the field ranges, the sum of the verdict
counters, and the flag relations. -/
def Obligations.EveryStepKeepsTheInvariants : Prop :=
  ∀ s t : State, s.Inv → step s = .next t → t.Inv

/-- An ERR bit is cleared only by a host write of 1 to it or by a reset (10_state.md R30). -/
def Obligations.ErrBitsAreStickyUntilAcknowledged : Prop :=
  ∀ (s t : State) (k : Fin 10), step s = .next t → s.err[k] = true → t.err[k] = false →
    Sys2Proof.Terms.NextReset s ∨ Sys2Proof.Terms.NextCommand s .softReset ∨
      ∃ v rest, s.bus.pending = .write 0x014#12 32 v :: rest ∧ v.getLsbD k.val = true

/-! ### The register bus -/

/-- The register map is one to one: exactly one offset for each register that exists, and every
other offset is unmapped (10_state.md section 2, 20_memory.md R84). -/
def Obligations.RegisterMapIsOneToOne : Prop :=
  ∀ (config : Config) (a : Nat) (r : Reg),
    regAt config a = some r ↔ a = r.offset ∧ Sys2Proof.Terms.Exists config r

/-- A legal read answers the register's value and changes nothing (20_memory.md R74, R83). How the
answer is held is the model's choice (log entry 3). -/
def Obligations.ReadsAnswerTheRegisterAndChangeNothing : Prop :=
  ∀ (s : State) (r : Reg) (rest : List HostEvent), Sys2Proof.Terms.Exists s.config r →
    s.bus.pending = .read (BitVec.ofNat 12 r.offset) 32 :: rest →
    step s = .next { s with bus := ⟨rest, some ⟨some (s.readReg r), false⟩⟩ }

/-- An access to an unmapped offset, a misaligned one or one of another width gets the error
response: a read gives 0, ERR.BUS is set, nothing else changes and no command runs
(20_memory.md R77). How the answer is held is the model's choice (log entry 3). -/
def Obligations.IllegalAccessesOnlySetErrBus : Prop :=
  ∀ (s : State) (a : BitVec 12) (width : Nat) (v : Word) (rest : List HostEvent),
    (width ≠ 32 ∨ a.toNat % 4 ≠ 0 ∨
      ∀ r, Sys2Proof.Terms.Exists s.config r → a.toNat ≠ r.offset) →
    (s.bus.pending = .read a width :: rest →
      step s = .next { s with
        err := s.err ||| 0x200#10, bus := ⟨rest, some ⟨some 0#32, true⟩⟩ }) ∧
    (s.bus.pending = .write a width v :: rest →
      step s = .next { s with err := s.err ||| 0x200#10, bus := ⟨rest, some ⟨none, true⟩⟩ })

/-- A permitted write of a RW or LK register sets it to the value masked to its width, and every
other register reads as before (10_state.md R23, 20_memory.md R75). How the answer is held is the
model's choice (log entry 3). -/
def Obligations.WritesSetTheRegisterMaskedAndNoOther : Prop :=
  ∀ (s : State) (r : Reg) (v : Word) (rest : List HostEvent),
    Sys2Proof.Terms.Exists s.config r →
    (r.accessClass = .rw ∨ r.accessClass = .lk ∧ s.passActive = false) →
    s.bus.pending = .write (BitVec.ofNat 12 r.offset) 32 v :: rest →
    ∃ t, step s = .next t ∧ t.readReg r = BitVec.ofNat 32 (v.toNat % 2 ^ r.width) ∧
      (∀ q, q ≠ r → t.readReg q = s.readReg q) ∧
      t.bus = ⟨rest, some ⟨none, false⟩⟩ ∧ t.config = s.config

/-- A write of a locked register during a pass leaves every register as it is and sets
ERR.CFG_LOCKED, without an error response (10_state.md R58). A write of an RO register is ignored
(R23), and a write of 1 to an ERR bit clears it and no other (R30). How the answer is held is the
model's choice (log entry 3). -/
def Obligations.LockedReadOnlyAndErrWrites : Prop :=
  ∀ (s : State) (r : Reg) (v : Word) (rest : List HostEvent),
    Sys2Proof.Terms.Exists s.config r →
    s.bus.pending = .write (BitVec.ofNat 12 r.offset) 32 v :: rest →
    (r.accessClass = .lk → s.passActive = true →
      step s = .next { s with
        err := s.err ||| 0x100#10, bus := ⟨rest, some ⟨none, false⟩⟩ }) ∧
    (r.accessClass = .ro → step s = .next { s with bus := ⟨rest, some ⟨none, false⟩⟩ }) ∧
    (r = .err → ∃ t, step s = .next t ∧
      (∀ k : Fin 10, t.err[k] = (s.err[k] && !v.getLsbD k.val)) ∧
      t = { s with err := t.err, bus := ⟨rest, some ⟨none, false⟩⟩ })

/-- A write of RBUF word w sets its bytes, little-endian, and no other byte; RBUF10 has two bytes
(20_memory.md R76). How the answer is held is the model's choice (log entry 3). -/
def Obligations.RbufWordWritesSetTheirBytes : Prop :=
  ∀ (s : State) (w : Fin 11) (v : Word) (rest : List HostEvent),
    s.bus.pending = .write (BitVec.ofNat 12 (0x100 + 4 * w.val)) 32 v :: rest →
    ∃ t, step s = .next t ∧
      (∀ j : Fin 42, t.rbuf[j] =
        if j.val / 4 = w.val then BitVec.ofNat 8 (v.toNat / 2 ^ (8 * (j.val % 4))) else s.rbuf[j]) ∧
      t = { s with rbuf := t.rbuf, bus := ⟨rest, some ⟨none, false⟩⟩ }

/-- RBUF word w reads as record bits 32w onwards, one LSB-first field (20_memory.md R80). -/
def Obligations.RbufWordsReadAsRecordBits : Prop :=
  ∀ (s : State) (w : Fin 11),
    (s.readReg (.rbuf w)).toNat =
      Sys2Proof.Terms.bitsValue s.rbuf (32 * w.val) (if w.val = 10 then 16 else 32)

/-- The bits of STATUS (10_state.md R27 to R29), VERDICT by the values of R29. -/
def Obligations.StatusBitsReadTheFlags : Prop :=
  ∀ s : State,
    let w := s.readReg .status
    w.getLsbD 0 = s.pktValid ∧ w.getLsbD 1 = s.pktPushed ∧ w.getLsbD 2 = s.diagDummy ∧
    w.toNat / 8 % 16 = s.implWhy.toNat ∧ w.getLsbD 7 = s.passActive ∧
    w.getLsbD 8 = s.prevValid ∧ w.toNat / 512 % 8 = Sys2Proof.Terms.verdictCode s.verdict ∧
    (w.getLsbD 12 = true ↔ s.accCount = 0#32) ∧ w.toNat < 2 ^ 13

/-! ### The host's programs -/

/-- LOADREC puts the record into RBUF and 42 into RLEN and changes nothing else
(30_encoding.md R119). -/
def Obligations.LoadRecLoadsTheRecord : Prop :=
  ∀ (s : State) (record : Vector Byte 42), ∃ t, handleEvents (loadRec record) s = .next t ∧
    t = { s with rbuf := record, rlen := 42#8, bus := t.bus } ∧ t.bus.pending = s.bus.pending

/-- Merging leaves the exclusion set unchanged (44_filterpipeline.md R254). -/
def Obligations.MergingKeepsTheExclusionSet : Prop :=
  ∀ (ranges : List (Nat × Nat)) (i : Nat),
    (∃ r ∈ mergeRanges ranges, r.1 ≤ i ∧ i ≤ r.2) ↔ (∃ r ∈ ranges, r.1 ≤ i ∧ i ≤ r.2)

/-- The exclusion set of a drop list is the set of positions its ranges cover, up to the last
position 2^32 − 2 (44_filterpipeline.md R253, R254). -/
def Obligations.ExclusionSetIsTheUnionOfTheTokens : Prop :=
  ∀ (text : List Char) (i : Nat),
    (∃ r ∈ exclusionRanges text, r.1 ≤ i ∧ i ≤ r.2) ↔
      i ≤ 2 ^ 32 - 2 ∧ ∃ lo hi, DropToken.range lo hi ∈ dropTokens text ∧ lo ≤ i ∧ i ≤ hi

/-- The conversion of finite float bounds is exact on channel values (44_filterpipeline.md R251). -/
def Obligations.FiniteBoundConversionIsExact : Prop :=
  ∀ (q : Rat) (v : Int), |v| < 2 ^ 30 →
    ∃ lo hi, minBoundOf (some (.finite q)) = some lo ∧ maxBoundOf (some (.finite q)) = some hi ∧
      ((v : Rat) < q ↔ v < lo) ∧ (q < (v : Rat) ↔ hi < v) ∧
      (u32 lo).toInt = lo ∧ (u32 hi).toInt = hi

/-! ### Registers and the fields the commands use -/

/-- What each register reads, in terms of the state the commands use (10_state.md section 2, R24 to
R26, R30 to R40, R51, R55; 40_bitcursor.md R143). CUR_LEFT is said where the cursor is inside its
buffer, an invariant (log entry 10). STATUS and RBUF have their own statements. -/
def Obligations.RegistersReadTheirFields : Prop :=
  ∀ s : State,
    (s.readReg .id = 0x4C544443#32 ∧ s.readReg .version = 1#32 ∧ s.readReg .cmd = 0#32) ∧
    (s.readReg .result).toNat = Sys2Proof.Terms.resultCode s.result ∧
    (s.readReg .err).toNat = s.err.toNat ∧ (s.readReg .ctrl).toNat = s.ctrl.toNat ∧
    s.readReg .maxJump = s.maxJump ∧ (s.readReg .rlen).toNat = s.rlen.toNat ∧
    (s.readReg .curPos).toNat = s.curPos.val ∧ (s.readReg .curLen).toNat = s.curLen.val ∧
    (s.Inv → ((s.readReg .curLeft).toNat : Int) = 8 * s.curLen.val - s.curPos.val) ∧
    s.readReg .curData = s.curData ∧ s.readReg .sxIn = s.sxIn ∧ s.readReg .sxOut = s.sxOut ∧
    s.readReg .vlimPress = s.vlimPress ∧ s.readReg .vlimLat = s.vlimLat ∧
    s.readReg .vlimLon = s.vlimLon ∧ s.readReg .vlimTemp = s.vlimTemp ∧
    (s.readReg .prevTime).toNat = s.prevTime.toNat ∧ s.readReg .seqIdx = s.seqIdx ∧
    s.readReg .accCount = s.accCount ∧ s.readReg .dropTime = s.dropTime ∧
    s.readReg .dropRange = s.dropRange ∧ s.readReg .dropManual = s.dropManual ∧
    s.readReg .lastDelta = s.lastDelta ∧ s.readReg .decOk = s.decOk ∧
    s.readReg .decFail = s.decFail ∧
    (∀ j : Fin 20, s.readReg (.pkt j) = s.pkt[j]) ∧
    (∀ c : Fin 18, (s.readReg (.rctl c)).toNat = s.chan[c].ctl.toNat ∧
      s.readReg (.rmin c) = s.chan[c].min ∧ s.readReg (.rmax c) = s.chan[c].max) ∧
    (∀ k : Fin 64, (s.readReg (.ectl k)).toNat = s.cam[k].ctl.toNat ∧
      s.readReg (.elo k) = s.cam[k].lo ∧ s.readReg (.ehi k) = s.cam[k].hi)

/-- A host write at the offset of each RW register sets the field the commands use and nothing else
(10_state.md R33, R36, R37; 20_memory.md R75). How the answer is held is the model's choice (log
entry 3). RBUF has its own statement. -/
def Obligations.WritesOfRwRegistersSetTheirFields : Prop :=
  ∀ (s : State) (v : Word) (rest : List HostEvent),
    let t := Sys2Proof.Terms.answered s rest
    (Sys2Proof.Terms.NextWrite s 0x020 v rest →
      step s = .next { t with rlen := BitVec.ofNat 8 v.toNat }) ∧
    (Sys2Proof.Terms.NextWrite s 0x034 v rest → step s = .next { t with sxIn := v }) ∧
    (Sys2Proof.Terms.NextWrite s 0x040 v rest → step s = .next { t with vlimPress := v }) ∧
    (Sys2Proof.Terms.NextWrite s 0x044 v rest → step s = .next { t with vlimLat := v }) ∧
    (Sys2Proof.Terms.NextWrite s 0x048 v rest → step s = .next { t with vlimLon := v }) ∧
    (Sys2Proof.Terms.NextWrite s 0x04C v rest → step s = .next { t with vlimTemp := v })

/-- Outside a pass a host write at the offset of each locked register sets the field the filter
stages use and nothing else (10_state.md R31, R32, R51, R55, R58; 20_memory.md R75). How the answer
is held is the model's choice (log entry 3). -/
def Obligations.WritesOfLockedRegistersSetTheirFields : Prop :=
  ∀ (s : State) (v : Word) (rest : List HostEvent), s.passActive = false →
    let t := Sys2Proof.Terms.answered s rest
    (Sys2Proof.Terms.NextWrite s 0x018 v rest →
      step s = .next { t with ctrl := BitVec.ofNat 5 v.toNat }) ∧
    (Sys2Proof.Terms.NextWrite s 0x01C v rest → step s = .next { t with maxJump := v }) ∧
    (∀ c : Fin 18,
      (Sys2Proof.Terms.NextWrite s (0x200 + 16 * c.val) v rest → step s = .next { t with
        chan := s.chan.set c ⟨BitVec.ofNat 2 v.toNat, s.chan[c].min, s.chan[c].max⟩ }) ∧
      (Sys2Proof.Terms.NextWrite s (0x204 + 16 * c.val) v rest → step s = .next { t with
        chan := s.chan.set c ⟨s.chan[c].ctl, v, s.chan[c].max⟩ }) ∧
      (Sys2Proof.Terms.NextWrite s (0x208 + 16 * c.val) v rest → step s = .next { t with
        chan := s.chan.set c ⟨s.chan[c].ctl, s.chan[c].min, v⟩ })) ∧
    (∀ k : Fin 64, k.val < s.config.nExcl →
      (Sys2Proof.Terms.NextWrite s (0x400 + 16 * k.val) v rest → step s = .next { t with
        cam := s.cam.set k ⟨BitVec.ofNat 1 v.toNat, s.cam[k].lo, s.cam[k].hi⟩ }) ∧
      (Sys2Proof.Terms.NextWrite s (0x404 + 16 * k.val) v rest → step s = .next { t with
        cam := s.cam.set k ⟨s.cam[k].ctl, v, s.cam[k].hi⟩ }) ∧
      (Sys2Proof.Terms.NextWrite s (0x408 + 16 * k.val) v rest → step s = .next { t with
        cam := s.cam.set k ⟨s.cam[k].ctl, s.cam[k].lo, v⟩ }))

/-! ### The host's configuration -/

/-- From every state, in a pass or not, the host's configuration accesses leave no pass active and
the filter registers as the mapping of the collaborator's values says (44_filterpipeline.md R251,
R254, R255; 70_reset_and_hazards.md R344), and no write is locked out (10_state.md R58). Ending an
open pass first is the model's host (log entry 13). -/
def Obligations.ConfigurationIsWrittenOutsideAPass : Prop :=
  ∀ (h : HostSettings) (s : State) (es : List HostEvent), s.config.Legal →
    h.configure s = some es → ∃ t, handleEvents es s = .next t ∧
      t.passActive = false ∧ t.err = s.err ∧
      (t.ctrl[0] = true ↔ h.maxJumpMs ≠ none ∨ h.allowWrap ≠ none) ∧
      (t.ctrl[1] = true ↔ ∃ c : Fin 18, h.chanMin[c] ≠ none ∨ h.chanMax[c] ≠ none) ∧
      (t.ctrl[2] = true ↔ ∃ i, ∃ r ∈ exclusionRanges h.dropPackets, r.1 ≤ i ∧ i ≤ r.2) ∧
      (t.ctrl[3] = true ↔ h.allowWrap = some true) ∧
      (t.ctrl[4] = true ↔ h.maxJumpMs ≠ none) ∧
      (∀ m, h.maxJumpMs = some m → t.maxJump.toInt = max (-2 ^ 31) (min m (2 ^ 31 - 1))) ∧
      (∀ c : Fin 18,
        (t.chan[c].ctl[0] = true ↔ minBoundOf h.chanMin[c] ≠ none) ∧
        (t.chan[c].ctl[1] = true ↔ maxBoundOf h.chanMax[c] ≠ none) ∧
        (∀ lo, minBoundOf h.chanMin[c] = some lo → t.chan[c].min.toInt = lo) ∧
        (∀ hi, maxBoundOf h.chanMax[c] = some hi → t.chan[c].max.toInt = hi)) ∧
      (∀ i : Nat,
        (∃ k : Fin 64, k.val < t.config.nExcl ∧ t.cam[k].ctl[0] = true ∧
          t.cam[k].lo.toNat ≤ i ∧ i ≤ t.cam[k].hi.toNat) ↔
        ∃ r ∈ exclusionRanges h.dropPackets, r.1 ≤ i ∧ i ≤ r.2)

/-- A run started inside a pass is the run started after FILTER_END, when the file and the exclusion
set let it start: the host ends the open pass first (43_batchdecoder.md R213,
70_reset_and_hazards.md R344; log entry 13). What its configuration then leaves has its own
statement. -/
def Obligations.RunEndsAnOpenPassFirst : Prop :=
  ∀ (h : HostSettings) (file : List Byte) (s t : State), s.passActive = true → file ≠ [] →
    file.length % 42 = 0 → h.configWrites s.config ≠ none →
    handleEvents [issue .filterEnd] s = .next t →
    hostRun h (some file) s = hostRun h (some file) t
end

