-- ==== Sys2Proof/Laws/State.lean ====
section
/-! SUPPORT. One lemma per field for each record update of the shared operations, true by rfl. -/

namespace Sys2Proof.Machine

variable (s : State)

/-! ### succeed -/

@[simp] theorem State.succeed_rbuf : s.succeed.rbuf = s.rbuf := rfl
@[simp] theorem State.succeed_rlen : s.succeed.rlen = s.rlen := rfl
@[simp] theorem State.succeed_curLen : s.succeed.curLen = s.curLen := rfl
@[simp] theorem State.succeed_curPos : s.succeed.curPos = s.curPos := rfl
@[simp] theorem State.succeed_curData : s.succeed.curData = s.curData := rfl
@[simp] theorem State.succeed_sxIn : s.succeed.sxIn = s.sxIn := rfl
@[simp] theorem State.succeed_sxOut : s.succeed.sxOut = s.sxOut := rfl
@[simp] theorem State.succeed_vlimPress : s.succeed.vlimPress = s.vlimPress := rfl
@[simp] theorem State.succeed_vlimLat : s.succeed.vlimLat = s.vlimLat := rfl
@[simp] theorem State.succeed_vlimLon : s.succeed.vlimLon = s.vlimLon := rfl
@[simp] theorem State.succeed_vlimTemp : s.succeed.vlimTemp = s.vlimTemp := rfl
@[simp] theorem State.succeed_pkt : s.succeed.pkt = s.pkt := rfl
@[simp] theorem State.succeed_pktValid : s.succeed.pktValid = s.pktValid := rfl
@[simp] theorem State.succeed_pktPushed : s.succeed.pktPushed = s.pktPushed := rfl
@[simp] theorem State.succeed_diagDummy : s.succeed.diagDummy = s.diagDummy := rfl
@[simp] theorem State.succeed_implWhy : s.succeed.implWhy = s.implWhy := rfl
@[simp] theorem State.succeed_passActive : s.succeed.passActive = s.passActive := rfl
@[simp] theorem State.succeed_prevValid : s.succeed.prevValid = s.prevValid := rfl
@[simp] theorem State.succeed_verdict : s.succeed.verdict = s.verdict := rfl
@[simp] theorem State.succeed_ctrl : s.succeed.ctrl = s.ctrl := rfl
@[simp] theorem State.succeed_maxJump : s.succeed.maxJump = s.maxJump := rfl
@[simp] theorem State.succeed_chan : s.succeed.chan = s.chan := rfl
@[simp] theorem State.succeed_cam : s.succeed.cam = s.cam := rfl
@[simp] theorem State.succeed_prevTime : s.succeed.prevTime = s.prevTime := rfl
@[simp] theorem State.succeed_seqIdx : s.succeed.seqIdx = s.seqIdx := rfl
@[simp] theorem State.succeed_lastDelta : s.succeed.lastDelta = s.lastDelta := rfl
@[simp] theorem State.succeed_accCount : s.succeed.accCount = s.accCount := rfl
@[simp] theorem State.succeed_dropTime : s.succeed.dropTime = s.dropTime := rfl
@[simp] theorem State.succeed_dropRange : s.succeed.dropRange = s.dropRange := rfl
@[simp] theorem State.succeed_dropManual : s.succeed.dropManual = s.dropManual := rfl
@[simp] theorem State.succeed_decOk : s.succeed.decOk = s.decOk := rfl
@[simp] theorem State.succeed_decFail : s.succeed.decFail = s.decFail := rfl
@[simp] theorem State.succeed_result : s.succeed.result = .ok := rfl
@[simp] theorem State.succeed_err : s.succeed.err = s.err := rfl
@[simp] theorem State.succeed_bus : s.succeed.bus = s.bus := rfl
@[simp] theorem State.succeed_config : s.succeed.config = s.config := rfl
@[simp] theorem State.succeed_resets : s.succeed.resets = s.resets := rfl

/-! ### raise -/

@[simp] theorem State.raise_rbuf (c : ResultCode) : (s.raise c).rbuf = s.rbuf := rfl
@[simp] theorem State.raise_rlen (c : ResultCode) : (s.raise c).rlen = s.rlen := rfl
@[simp] theorem State.raise_curLen (c : ResultCode) : (s.raise c).curLen = s.curLen := rfl
@[simp] theorem State.raise_curPos (c : ResultCode) : (s.raise c).curPos = s.curPos := rfl
@[simp] theorem State.raise_curData (c : ResultCode) : (s.raise c).curData = s.curData := rfl
@[simp] theorem State.raise_sxIn (c : ResultCode) : (s.raise c).sxIn = s.sxIn := rfl
@[simp] theorem State.raise_sxOut (c : ResultCode) : (s.raise c).sxOut = s.sxOut := rfl
@[simp] theorem State.raise_vlimPress (c : ResultCode) : (s.raise c).vlimPress = s.vlimPress := rfl
@[simp] theorem State.raise_vlimLat (c : ResultCode) : (s.raise c).vlimLat = s.vlimLat := rfl
@[simp] theorem State.raise_vlimLon (c : ResultCode) : (s.raise c).vlimLon = s.vlimLon := rfl
@[simp] theorem State.raise_vlimTemp (c : ResultCode) : (s.raise c).vlimTemp = s.vlimTemp := rfl
@[simp] theorem State.raise_pkt (c : ResultCode) : (s.raise c).pkt = s.pkt := rfl
@[simp] theorem State.raise_pktValid (c : ResultCode) : (s.raise c).pktValid = s.pktValid := rfl
@[simp] theorem State.raise_pktPushed (c : ResultCode) : (s.raise c).pktPushed = s.pktPushed := rfl
@[simp] theorem State.raise_diagDummy (c : ResultCode) : (s.raise c).diagDummy = s.diagDummy := rfl
@[simp] theorem State.raise_implWhy (c : ResultCode) : (s.raise c).implWhy = s.implWhy := rfl
@[simp] theorem State.raise_passActive (c : ResultCode) : (s.raise c).passActive = s.passActive := rfl
@[simp] theorem State.raise_prevValid (c : ResultCode) : (s.raise c).prevValid = s.prevValid := rfl
@[simp] theorem State.raise_verdict (c : ResultCode) : (s.raise c).verdict = s.verdict := rfl
@[simp] theorem State.raise_ctrl (c : ResultCode) : (s.raise c).ctrl = s.ctrl := rfl
@[simp] theorem State.raise_maxJump (c : ResultCode) : (s.raise c).maxJump = s.maxJump := rfl
@[simp] theorem State.raise_chan (c : ResultCode) : (s.raise c).chan = s.chan := rfl
@[simp] theorem State.raise_cam (c : ResultCode) : (s.raise c).cam = s.cam := rfl
@[simp] theorem State.raise_prevTime (c : ResultCode) : (s.raise c).prevTime = s.prevTime := rfl
@[simp] theorem State.raise_seqIdx (c : ResultCode) : (s.raise c).seqIdx = s.seqIdx := rfl
@[simp] theorem State.raise_lastDelta (c : ResultCode) : (s.raise c).lastDelta = s.lastDelta := rfl
@[simp] theorem State.raise_accCount (c : ResultCode) : (s.raise c).accCount = s.accCount := rfl
@[simp] theorem State.raise_dropTime (c : ResultCode) : (s.raise c).dropTime = s.dropTime := rfl
@[simp] theorem State.raise_dropRange (c : ResultCode) : (s.raise c).dropRange = s.dropRange := rfl
@[simp] theorem State.raise_dropManual (c : ResultCode) : (s.raise c).dropManual = s.dropManual := rfl
@[simp] theorem State.raise_decOk (c : ResultCode) : (s.raise c).decOk = s.decOk := rfl
@[simp] theorem State.raise_decFail (c : ResultCode) : (s.raise c).decFail = s.decFail := rfl
@[simp] theorem State.raise_result (c : ResultCode) : (s.raise c).result = c := rfl
@[simp] theorem State.raise_err (c : ResultCode) : (s.raise c).err = s.err ||| c.errMask := rfl
@[simp] theorem State.raise_bus (c : ResultCode) : (s.raise c).bus = s.bus := rfl
@[simp] theorem State.raise_config (c : ResultCode) : (s.raise c).config = s.config := rfl
@[simp] theorem State.raise_resets (c : ResultCode) : (s.raise c).resets = s.resets := rfl

/-! ### setErr -/

@[simp] theorem State.setErr_rbuf (m : BitVec 10) : (s.setErr m).rbuf = s.rbuf := rfl
@[simp] theorem State.setErr_rlen (m : BitVec 10) : (s.setErr m).rlen = s.rlen := rfl
@[simp] theorem State.setErr_curLen (m : BitVec 10) : (s.setErr m).curLen = s.curLen := rfl
@[simp] theorem State.setErr_curPos (m : BitVec 10) : (s.setErr m).curPos = s.curPos := rfl
@[simp] theorem State.setErr_curData (m : BitVec 10) : (s.setErr m).curData = s.curData := rfl
@[simp] theorem State.setErr_sxIn (m : BitVec 10) : (s.setErr m).sxIn = s.sxIn := rfl
@[simp] theorem State.setErr_sxOut (m : BitVec 10) : (s.setErr m).sxOut = s.sxOut := rfl
@[simp] theorem State.setErr_vlimPress (m : BitVec 10) : (s.setErr m).vlimPress = s.vlimPress := rfl
@[simp] theorem State.setErr_vlimLat (m : BitVec 10) : (s.setErr m).vlimLat = s.vlimLat := rfl
@[simp] theorem State.setErr_vlimLon (m : BitVec 10) : (s.setErr m).vlimLon = s.vlimLon := rfl
@[simp] theorem State.setErr_vlimTemp (m : BitVec 10) : (s.setErr m).vlimTemp = s.vlimTemp := rfl
@[simp] theorem State.setErr_pkt (m : BitVec 10) : (s.setErr m).pkt = s.pkt := rfl
@[simp] theorem State.setErr_pktValid (m : BitVec 10) : (s.setErr m).pktValid = s.pktValid := rfl
@[simp] theorem State.setErr_pktPushed (m : BitVec 10) : (s.setErr m).pktPushed = s.pktPushed := rfl
@[simp] theorem State.setErr_diagDummy (m : BitVec 10) : (s.setErr m).diagDummy = s.diagDummy := rfl
@[simp] theorem State.setErr_implWhy (m : BitVec 10) : (s.setErr m).implWhy = s.implWhy := rfl
@[simp] theorem State.setErr_passActive (m : BitVec 10) : (s.setErr m).passActive = s.passActive := rfl
@[simp] theorem State.setErr_prevValid (m : BitVec 10) : (s.setErr m).prevValid = s.prevValid := rfl
@[simp] theorem State.setErr_verdict (m : BitVec 10) : (s.setErr m).verdict = s.verdict := rfl
@[simp] theorem State.setErr_ctrl (m : BitVec 10) : (s.setErr m).ctrl = s.ctrl := rfl
@[simp] theorem State.setErr_maxJump (m : BitVec 10) : (s.setErr m).maxJump = s.maxJump := rfl
@[simp] theorem State.setErr_chan (m : BitVec 10) : (s.setErr m).chan = s.chan := rfl
@[simp] theorem State.setErr_cam (m : BitVec 10) : (s.setErr m).cam = s.cam := rfl
@[simp] theorem State.setErr_prevTime (m : BitVec 10) : (s.setErr m).prevTime = s.prevTime := rfl
@[simp] theorem State.setErr_seqIdx (m : BitVec 10) : (s.setErr m).seqIdx = s.seqIdx := rfl
@[simp] theorem State.setErr_lastDelta (m : BitVec 10) : (s.setErr m).lastDelta = s.lastDelta := rfl
@[simp] theorem State.setErr_accCount (m : BitVec 10) : (s.setErr m).accCount = s.accCount := rfl
@[simp] theorem State.setErr_dropTime (m : BitVec 10) : (s.setErr m).dropTime = s.dropTime := rfl
@[simp] theorem State.setErr_dropRange (m : BitVec 10) : (s.setErr m).dropRange = s.dropRange := rfl
@[simp] theorem State.setErr_dropManual (m : BitVec 10) : (s.setErr m).dropManual = s.dropManual := rfl
@[simp] theorem State.setErr_decOk (m : BitVec 10) : (s.setErr m).decOk = s.decOk := rfl
@[simp] theorem State.setErr_decFail (m : BitVec 10) : (s.setErr m).decFail = s.decFail := rfl
@[simp] theorem State.setErr_result (m : BitVec 10) : (s.setErr m).result = s.result := rfl
@[simp] theorem State.setErr_err (m : BitVec 10) : (s.setErr m).err = s.err ||| m := rfl
@[simp] theorem State.setErr_bus (m : BitVec 10) : (s.setErr m).bus = s.bus := rfl
@[simp] theorem State.setErr_config (m : BitVec 10) : (s.setErr m).config = s.config := rfl
@[simp] theorem State.setErr_resets (m : BitVec 10) : (s.setErr m).resets = s.resets := rfl

/-! ### acknowledge -/

@[simp] theorem State.acknowledge_rbuf (v : Word) : (s.acknowledge v).rbuf = s.rbuf := rfl
@[simp] theorem State.acknowledge_rlen (v : Word) : (s.acknowledge v).rlen = s.rlen := rfl
@[simp] theorem State.acknowledge_curLen (v : Word) : (s.acknowledge v).curLen = s.curLen := rfl
@[simp] theorem State.acknowledge_curPos (v : Word) : (s.acknowledge v).curPos = s.curPos := rfl
@[simp] theorem State.acknowledge_curData (v : Word) : (s.acknowledge v).curData = s.curData := rfl
@[simp] theorem State.acknowledge_sxIn (v : Word) : (s.acknowledge v).sxIn = s.sxIn := rfl
@[simp] theorem State.acknowledge_sxOut (v : Word) : (s.acknowledge v).sxOut = s.sxOut := rfl
@[simp] theorem State.acknowledge_vlimPress (v : Word) : (s.acknowledge v).vlimPress = s.vlimPress := rfl
@[simp] theorem State.acknowledge_vlimLat (v : Word) : (s.acknowledge v).vlimLat = s.vlimLat := rfl
@[simp] theorem State.acknowledge_vlimLon (v : Word) : (s.acknowledge v).vlimLon = s.vlimLon := rfl
@[simp] theorem State.acknowledge_vlimTemp (v : Word) : (s.acknowledge v).vlimTemp = s.vlimTemp := rfl
@[simp] theorem State.acknowledge_pkt (v : Word) : (s.acknowledge v).pkt = s.pkt := rfl
@[simp] theorem State.acknowledge_pktValid (v : Word) : (s.acknowledge v).pktValid = s.pktValid := rfl
@[simp] theorem State.acknowledge_pktPushed (v : Word) : (s.acknowledge v).pktPushed = s.pktPushed := rfl
@[simp] theorem State.acknowledge_diagDummy (v : Word) : (s.acknowledge v).diagDummy = s.diagDummy := rfl
@[simp] theorem State.acknowledge_implWhy (v : Word) : (s.acknowledge v).implWhy = s.implWhy := rfl
@[simp] theorem State.acknowledge_passActive (v : Word) : (s.acknowledge v).passActive = s.passActive := rfl
@[simp] theorem State.acknowledge_prevValid (v : Word) : (s.acknowledge v).prevValid = s.prevValid := rfl
@[simp] theorem State.acknowledge_verdict (v : Word) : (s.acknowledge v).verdict = s.verdict := rfl
@[simp] theorem State.acknowledge_ctrl (v : Word) : (s.acknowledge v).ctrl = s.ctrl := rfl
@[simp] theorem State.acknowledge_maxJump (v : Word) : (s.acknowledge v).maxJump = s.maxJump := rfl
@[simp] theorem State.acknowledge_chan (v : Word) : (s.acknowledge v).chan = s.chan := rfl
@[simp] theorem State.acknowledge_cam (v : Word) : (s.acknowledge v).cam = s.cam := rfl
@[simp] theorem State.acknowledge_prevTime (v : Word) : (s.acknowledge v).prevTime = s.prevTime := rfl
@[simp] theorem State.acknowledge_seqIdx (v : Word) : (s.acknowledge v).seqIdx = s.seqIdx := rfl
@[simp] theorem State.acknowledge_lastDelta (v : Word) : (s.acknowledge v).lastDelta = s.lastDelta := rfl
@[simp] theorem State.acknowledge_accCount (v : Word) : (s.acknowledge v).accCount = s.accCount := rfl
@[simp] theorem State.acknowledge_dropTime (v : Word) : (s.acknowledge v).dropTime = s.dropTime := rfl
@[simp] theorem State.acknowledge_dropRange (v : Word) : (s.acknowledge v).dropRange = s.dropRange := rfl
@[simp] theorem State.acknowledge_dropManual (v : Word) : (s.acknowledge v).dropManual = s.dropManual := rfl
@[simp] theorem State.acknowledge_decOk (v : Word) : (s.acknowledge v).decOk = s.decOk := rfl
@[simp] theorem State.acknowledge_decFail (v : Word) : (s.acknowledge v).decFail = s.decFail := rfl
@[simp] theorem State.acknowledge_result (v : Word) : (s.acknowledge v).result = s.result := rfl
@[simp] theorem State.acknowledge_err (v : Word) : (s.acknowledge v).err = s.err &&& ~~~(v.setWidth 10) := rfl
@[simp] theorem State.acknowledge_bus (v : Word) : (s.acknowledge v).bus = s.bus := rfl
@[simp] theorem State.acknowledge_config (v : Word) : (s.acknowledge v).config = s.config := rfl
@[simp] theorem State.acknowledge_resets (v : Word) : (s.acknowledge v).resets = s.resets := rfl

/-! ### respond -/

@[simp] theorem State.respond_rbuf (r : BusResponse) : (s.respond r).rbuf = s.rbuf := rfl
@[simp] theorem State.respond_rlen (r : BusResponse) : (s.respond r).rlen = s.rlen := rfl
@[simp] theorem State.respond_curLen (r : BusResponse) : (s.respond r).curLen = s.curLen := rfl
@[simp] theorem State.respond_curPos (r : BusResponse) : (s.respond r).curPos = s.curPos := rfl
@[simp] theorem State.respond_curData (r : BusResponse) : (s.respond r).curData = s.curData := rfl
@[simp] theorem State.respond_sxIn (r : BusResponse) : (s.respond r).sxIn = s.sxIn := rfl
@[simp] theorem State.respond_sxOut (r : BusResponse) : (s.respond r).sxOut = s.sxOut := rfl
@[simp] theorem State.respond_vlimPress (r : BusResponse) : (s.respond r).vlimPress = s.vlimPress := rfl
@[simp] theorem State.respond_vlimLat (r : BusResponse) : (s.respond r).vlimLat = s.vlimLat := rfl
@[simp] theorem State.respond_vlimLon (r : BusResponse) : (s.respond r).vlimLon = s.vlimLon := rfl
@[simp] theorem State.respond_vlimTemp (r : BusResponse) : (s.respond r).vlimTemp = s.vlimTemp := rfl
@[simp] theorem State.respond_pkt (r : BusResponse) : (s.respond r).pkt = s.pkt := rfl
@[simp] theorem State.respond_pktValid (r : BusResponse) : (s.respond r).pktValid = s.pktValid := rfl
@[simp] theorem State.respond_pktPushed (r : BusResponse) : (s.respond r).pktPushed = s.pktPushed := rfl
@[simp] theorem State.respond_diagDummy (r : BusResponse) : (s.respond r).diagDummy = s.diagDummy := rfl
@[simp] theorem State.respond_implWhy (r : BusResponse) : (s.respond r).implWhy = s.implWhy := rfl
@[simp] theorem State.respond_passActive (r : BusResponse) : (s.respond r).passActive = s.passActive := rfl
@[simp] theorem State.respond_prevValid (r : BusResponse) : (s.respond r).prevValid = s.prevValid := rfl
@[simp] theorem State.respond_verdict (r : BusResponse) : (s.respond r).verdict = s.verdict := rfl
@[simp] theorem State.respond_ctrl (r : BusResponse) : (s.respond r).ctrl = s.ctrl := rfl
@[simp] theorem State.respond_maxJump (r : BusResponse) : (s.respond r).maxJump = s.maxJump := rfl
@[simp] theorem State.respond_chan (r : BusResponse) : (s.respond r).chan = s.chan := rfl
@[simp] theorem State.respond_cam (r : BusResponse) : (s.respond r).cam = s.cam := rfl
@[simp] theorem State.respond_prevTime (r : BusResponse) : (s.respond r).prevTime = s.prevTime := rfl
@[simp] theorem State.respond_seqIdx (r : BusResponse) : (s.respond r).seqIdx = s.seqIdx := rfl
@[simp] theorem State.respond_lastDelta (r : BusResponse) : (s.respond r).lastDelta = s.lastDelta := rfl
@[simp] theorem State.respond_accCount (r : BusResponse) : (s.respond r).accCount = s.accCount := rfl
@[simp] theorem State.respond_dropTime (r : BusResponse) : (s.respond r).dropTime = s.dropTime := rfl
@[simp] theorem State.respond_dropRange (r : BusResponse) : (s.respond r).dropRange = s.dropRange := rfl
@[simp] theorem State.respond_dropManual (r : BusResponse) : (s.respond r).dropManual = s.dropManual := rfl
@[simp] theorem State.respond_decOk (r : BusResponse) : (s.respond r).decOk = s.decOk := rfl
@[simp] theorem State.respond_decFail (r : BusResponse) : (s.respond r).decFail = s.decFail := rfl
@[simp] theorem State.respond_result (r : BusResponse) : (s.respond r).result = s.result := rfl
@[simp] theorem State.respond_err (r : BusResponse) : (s.respond r).err = s.err := rfl
@[simp] theorem State.respond_bus (r : BusResponse) : (s.respond r).bus = ⟨s.bus.pending, some r⟩ := rfl
@[simp] theorem State.respond_config (r : BusResponse) : (s.respond r).config = s.config := rfl
@[simp] theorem State.respond_resets (r : BusResponse) : (s.respond r).resets = s.resets := rfl

/-! ### afterTaking -/

@[simp] theorem State.afterTaking_rbuf (rest : List HostEvent) : (s.afterTaking rest).rbuf = s.rbuf := rfl
@[simp] theorem State.afterTaking_rlen (rest : List HostEvent) : (s.afterTaking rest).rlen = s.rlen := rfl
@[simp] theorem State.afterTaking_curLen (rest : List HostEvent) : (s.afterTaking rest).curLen = s.curLen := rfl
@[simp] theorem State.afterTaking_curPos (rest : List HostEvent) : (s.afterTaking rest).curPos = s.curPos := rfl
@[simp] theorem State.afterTaking_curData (rest : List HostEvent) : (s.afterTaking rest).curData = s.curData := rfl
@[simp] theorem State.afterTaking_sxIn (rest : List HostEvent) : (s.afterTaking rest).sxIn = s.sxIn := rfl
@[simp] theorem State.afterTaking_sxOut (rest : List HostEvent) : (s.afterTaking rest).sxOut = s.sxOut := rfl
@[simp] theorem State.afterTaking_vlimPress (rest : List HostEvent) : (s.afterTaking rest).vlimPress = s.vlimPress := rfl
@[simp] theorem State.afterTaking_vlimLat (rest : List HostEvent) : (s.afterTaking rest).vlimLat = s.vlimLat := rfl
@[simp] theorem State.afterTaking_vlimLon (rest : List HostEvent) : (s.afterTaking rest).vlimLon = s.vlimLon := rfl
@[simp] theorem State.afterTaking_vlimTemp (rest : List HostEvent) : (s.afterTaking rest).vlimTemp = s.vlimTemp := rfl
@[simp] theorem State.afterTaking_pkt (rest : List HostEvent) : (s.afterTaking rest).pkt = s.pkt := rfl
@[simp] theorem State.afterTaking_pktValid (rest : List HostEvent) : (s.afterTaking rest).pktValid = s.pktValid := rfl
@[simp] theorem State.afterTaking_pktPushed (rest : List HostEvent) : (s.afterTaking rest).pktPushed = s.pktPushed := rfl
@[simp] theorem State.afterTaking_diagDummy (rest : List HostEvent) : (s.afterTaking rest).diagDummy = s.diagDummy := rfl
@[simp] theorem State.afterTaking_implWhy (rest : List HostEvent) : (s.afterTaking rest).implWhy = s.implWhy := rfl
@[simp] theorem State.afterTaking_passActive (rest : List HostEvent) : (s.afterTaking rest).passActive = s.passActive := rfl
@[simp] theorem State.afterTaking_prevValid (rest : List HostEvent) : (s.afterTaking rest).prevValid = s.prevValid := rfl
@[simp] theorem State.afterTaking_verdict (rest : List HostEvent) : (s.afterTaking rest).verdict = s.verdict := rfl
@[simp] theorem State.afterTaking_ctrl (rest : List HostEvent) : (s.afterTaking rest).ctrl = s.ctrl := rfl
@[simp] theorem State.afterTaking_maxJump (rest : List HostEvent) : (s.afterTaking rest).maxJump = s.maxJump := rfl
@[simp] theorem State.afterTaking_chan (rest : List HostEvent) : (s.afterTaking rest).chan = s.chan := rfl
@[simp] theorem State.afterTaking_cam (rest : List HostEvent) : (s.afterTaking rest).cam = s.cam := rfl
@[simp] theorem State.afterTaking_prevTime (rest : List HostEvent) : (s.afterTaking rest).prevTime = s.prevTime := rfl
@[simp] theorem State.afterTaking_seqIdx (rest : List HostEvent) : (s.afterTaking rest).seqIdx = s.seqIdx := rfl
@[simp] theorem State.afterTaking_lastDelta (rest : List HostEvent) : (s.afterTaking rest).lastDelta = s.lastDelta := rfl
@[simp] theorem State.afterTaking_accCount (rest : List HostEvent) : (s.afterTaking rest).accCount = s.accCount := rfl
@[simp] theorem State.afterTaking_dropTime (rest : List HostEvent) : (s.afterTaking rest).dropTime = s.dropTime := rfl
@[simp] theorem State.afterTaking_dropRange (rest : List HostEvent) : (s.afterTaking rest).dropRange = s.dropRange := rfl
@[simp] theorem State.afterTaking_dropManual (rest : List HostEvent) : (s.afterTaking rest).dropManual = s.dropManual := rfl
@[simp] theorem State.afterTaking_decOk (rest : List HostEvent) : (s.afterTaking rest).decOk = s.decOk := rfl
@[simp] theorem State.afterTaking_decFail (rest : List HostEvent) : (s.afterTaking rest).decFail = s.decFail := rfl
@[simp] theorem State.afterTaking_result (rest : List HostEvent) : (s.afterTaking rest).result = s.result := rfl
@[simp] theorem State.afterTaking_err (rest : List HostEvent) : (s.afterTaking rest).err = s.err := rfl
@[simp] theorem State.afterTaking_bus (rest : List HostEvent) : (s.afterTaking rest).bus = ⟨rest, s.bus.response⟩ := rfl
@[simp] theorem State.afterTaking_config (rest : List HostEvent) : (s.afterTaking rest).config = s.config := rfl
@[simp] theorem State.afterTaking_resets (rest : List HostEvent) : (s.afterTaking rest).resets = s.resets := rfl

/-! ### holdNoRecord -/

@[simp] theorem State.holdNoRecord_rbuf : s.holdNoRecord.rbuf = s.rbuf := rfl
@[simp] theorem State.holdNoRecord_rlen : s.holdNoRecord.rlen = s.rlen := rfl
@[simp] theorem State.holdNoRecord_curLen : s.holdNoRecord.curLen = s.curLen := rfl
@[simp] theorem State.holdNoRecord_curPos : s.holdNoRecord.curPos = s.curPos := rfl
@[simp] theorem State.holdNoRecord_curData : s.holdNoRecord.curData = s.curData := rfl
@[simp] theorem State.holdNoRecord_sxIn : s.holdNoRecord.sxIn = s.sxIn := rfl
@[simp] theorem State.holdNoRecord_sxOut : s.holdNoRecord.sxOut = s.sxOut := rfl
@[simp] theorem State.holdNoRecord_vlimPress : s.holdNoRecord.vlimPress = s.vlimPress := rfl
@[simp] theorem State.holdNoRecord_vlimLat : s.holdNoRecord.vlimLat = s.vlimLat := rfl
@[simp] theorem State.holdNoRecord_vlimLon : s.holdNoRecord.vlimLon = s.vlimLon := rfl
@[simp] theorem State.holdNoRecord_vlimTemp : s.holdNoRecord.vlimTemp = s.vlimTemp := rfl
@[simp] theorem State.holdNoRecord_pkt : s.holdNoRecord.pkt = s.pkt := rfl
@[simp] theorem State.holdNoRecord_pktValid : s.holdNoRecord.pktValid = false := rfl
@[simp] theorem State.holdNoRecord_pktPushed : s.holdNoRecord.pktPushed = false := rfl
@[simp] theorem State.holdNoRecord_diagDummy : s.holdNoRecord.diagDummy = false := rfl
@[simp] theorem State.holdNoRecord_implWhy : s.holdNoRecord.implWhy = 0#4 := rfl
@[simp] theorem State.holdNoRecord_passActive : s.holdNoRecord.passActive = s.passActive := rfl
@[simp] theorem State.holdNoRecord_prevValid : s.holdNoRecord.prevValid = s.prevValid := rfl
@[simp] theorem State.holdNoRecord_verdict : s.holdNoRecord.verdict = s.verdict := rfl
@[simp] theorem State.holdNoRecord_ctrl : s.holdNoRecord.ctrl = s.ctrl := rfl
@[simp] theorem State.holdNoRecord_maxJump : s.holdNoRecord.maxJump = s.maxJump := rfl
@[simp] theorem State.holdNoRecord_chan : s.holdNoRecord.chan = s.chan := rfl
@[simp] theorem State.holdNoRecord_cam : s.holdNoRecord.cam = s.cam := rfl
@[simp] theorem State.holdNoRecord_prevTime : s.holdNoRecord.prevTime = s.prevTime := rfl
@[simp] theorem State.holdNoRecord_seqIdx : s.holdNoRecord.seqIdx = s.seqIdx := rfl
@[simp] theorem State.holdNoRecord_lastDelta : s.holdNoRecord.lastDelta = s.lastDelta := rfl
@[simp] theorem State.holdNoRecord_accCount : s.holdNoRecord.accCount = s.accCount := rfl
@[simp] theorem State.holdNoRecord_dropTime : s.holdNoRecord.dropTime = s.dropTime := rfl
@[simp] theorem State.holdNoRecord_dropRange : s.holdNoRecord.dropRange = s.dropRange := rfl
@[simp] theorem State.holdNoRecord_dropManual : s.holdNoRecord.dropManual = s.dropManual := rfl
@[simp] theorem State.holdNoRecord_decOk : s.holdNoRecord.decOk = s.decOk := rfl
@[simp] theorem State.holdNoRecord_decFail : s.holdNoRecord.decFail = s.decFail + 1#32 := rfl
@[simp] theorem State.holdNoRecord_result : s.holdNoRecord.result = s.result := rfl
@[simp] theorem State.holdNoRecord_err : s.holdNoRecord.err = s.err := rfl
@[simp] theorem State.holdNoRecord_bus : s.holdNoRecord.bus = s.bus := rfl
@[simp] theorem State.holdNoRecord_config : s.holdNoRecord.config = s.config := rfl
@[simp] theorem State.holdNoRecord_resets : s.holdNoRecord.resets = s.resets := rfl

/-! ### holdImplausible -/

@[simp] theorem State.holdImplausible_rbuf (p : Vector Word 20) (why : BitVec 4) : (s.holdImplausible p why).rbuf = s.rbuf := rfl
@[simp] theorem State.holdImplausible_rlen (p : Vector Word 20) (why : BitVec 4) : (s.holdImplausible p why).rlen = s.rlen := rfl
@[simp] theorem State.holdImplausible_curLen (p : Vector Word 20) (why : BitVec 4) : (s.holdImplausible p why).curLen = 42 := rfl
@[simp] theorem State.holdImplausible_curPos (p : Vector Word 20) (why : BitVec 4) : (s.holdImplausible p why).curPos = 336 := rfl
@[simp] theorem State.holdImplausible_curData (p : Vector Word 20) (why : BitVec 4) : (s.holdImplausible p why).curData = s.curData := rfl
@[simp] theorem State.holdImplausible_sxIn (p : Vector Word 20) (why : BitVec 4) : (s.holdImplausible p why).sxIn = s.sxIn := rfl
@[simp] theorem State.holdImplausible_sxOut (p : Vector Word 20) (why : BitVec 4) : (s.holdImplausible p why).sxOut = s.sxOut := rfl
@[simp] theorem State.holdImplausible_vlimPress (p : Vector Word 20) (why : BitVec 4) : (s.holdImplausible p why).vlimPress = s.vlimPress := rfl
@[simp] theorem State.holdImplausible_vlimLat (p : Vector Word 20) (why : BitVec 4) : (s.holdImplausible p why).vlimLat = s.vlimLat := rfl
@[simp] theorem State.holdImplausible_vlimLon (p : Vector Word 20) (why : BitVec 4) : (s.holdImplausible p why).vlimLon = s.vlimLon := rfl
@[simp] theorem State.holdImplausible_vlimTemp (p : Vector Word 20) (why : BitVec 4) : (s.holdImplausible p why).vlimTemp = s.vlimTemp := rfl
@[simp] theorem State.holdImplausible_pkt (p : Vector Word 20) (why : BitVec 4) : (s.holdImplausible p why).pkt = p := rfl
@[simp] theorem State.holdImplausible_pktValid (p : Vector Word 20) (why : BitVec 4) : (s.holdImplausible p why).pktValid = false := rfl
@[simp] theorem State.holdImplausible_pktPushed (p : Vector Word 20) (why : BitVec 4) : (s.holdImplausible p why).pktPushed = false := rfl
@[simp] theorem State.holdImplausible_diagDummy (p : Vector Word 20) (why : BitVec 4) : (s.holdImplausible p why).diagDummy = (p[5] != 0#32) := rfl
@[simp] theorem State.holdImplausible_implWhy (p : Vector Word 20) (why : BitVec 4) : (s.holdImplausible p why).implWhy = why := rfl
@[simp] theorem State.holdImplausible_passActive (p : Vector Word 20) (why : BitVec 4) : (s.holdImplausible p why).passActive = s.passActive := rfl
@[simp] theorem State.holdImplausible_prevValid (p : Vector Word 20) (why : BitVec 4) : (s.holdImplausible p why).prevValid = s.prevValid := rfl
@[simp] theorem State.holdImplausible_verdict (p : Vector Word 20) (why : BitVec 4) : (s.holdImplausible p why).verdict = s.verdict := rfl
@[simp] theorem State.holdImplausible_ctrl (p : Vector Word 20) (why : BitVec 4) : (s.holdImplausible p why).ctrl = s.ctrl := rfl
@[simp] theorem State.holdImplausible_maxJump (p : Vector Word 20) (why : BitVec 4) : (s.holdImplausible p why).maxJump = s.maxJump := rfl
@[simp] theorem State.holdImplausible_chan (p : Vector Word 20) (why : BitVec 4) : (s.holdImplausible p why).chan = s.chan := rfl
@[simp] theorem State.holdImplausible_cam (p : Vector Word 20) (why : BitVec 4) : (s.holdImplausible p why).cam = s.cam := rfl
@[simp] theorem State.holdImplausible_prevTime (p : Vector Word 20) (why : BitVec 4) : (s.holdImplausible p why).prevTime = s.prevTime := rfl
@[simp] theorem State.holdImplausible_seqIdx (p : Vector Word 20) (why : BitVec 4) : (s.holdImplausible p why).seqIdx = s.seqIdx := rfl
@[simp] theorem State.holdImplausible_lastDelta (p : Vector Word 20) (why : BitVec 4) : (s.holdImplausible p why).lastDelta = s.lastDelta := rfl
@[simp] theorem State.holdImplausible_accCount (p : Vector Word 20) (why : BitVec 4) : (s.holdImplausible p why).accCount = s.accCount := rfl
@[simp] theorem State.holdImplausible_dropTime (p : Vector Word 20) (why : BitVec 4) : (s.holdImplausible p why).dropTime = s.dropTime := rfl
@[simp] theorem State.holdImplausible_dropRange (p : Vector Word 20) (why : BitVec 4) : (s.holdImplausible p why).dropRange = s.dropRange := rfl
@[simp] theorem State.holdImplausible_dropManual (p : Vector Word 20) (why : BitVec 4) : (s.holdImplausible p why).dropManual = s.dropManual := rfl
@[simp] theorem State.holdImplausible_decOk (p : Vector Word 20) (why : BitVec 4) : (s.holdImplausible p why).decOk = s.decOk := rfl
@[simp] theorem State.holdImplausible_decFail (p : Vector Word 20) (why : BitVec 4) : (s.holdImplausible p why).decFail = s.decFail + 1#32 := rfl
@[simp] theorem State.holdImplausible_result (p : Vector Word 20) (why : BitVec 4) : (s.holdImplausible p why).result = s.result := rfl
@[simp] theorem State.holdImplausible_err (p : Vector Word 20) (why : BitVec 4) : (s.holdImplausible p why).err = s.err := rfl
@[simp] theorem State.holdImplausible_bus (p : Vector Word 20) (why : BitVec 4) : (s.holdImplausible p why).bus = s.bus := rfl
@[simp] theorem State.holdImplausible_config (p : Vector Word 20) (why : BitVec 4) : (s.holdImplausible p why).config = s.config := rfl
@[simp] theorem State.holdImplausible_resets (p : Vector Word 20) (why : BitVec 4) : (s.holdImplausible p why).resets = s.resets := rfl

/-! ### holdPacket -/

@[simp] theorem State.holdPacket_rbuf (p : Vector Word 20) : (s.holdPacket p).rbuf = s.rbuf := rfl
@[simp] theorem State.holdPacket_rlen (p : Vector Word 20) : (s.holdPacket p).rlen = s.rlen := rfl
@[simp] theorem State.holdPacket_curLen (p : Vector Word 20) : (s.holdPacket p).curLen = 42 := rfl
@[simp] theorem State.holdPacket_curPos (p : Vector Word 20) : (s.holdPacket p).curPos = 336 := rfl
@[simp] theorem State.holdPacket_curData (p : Vector Word 20) : (s.holdPacket p).curData = s.curData := rfl
@[simp] theorem State.holdPacket_sxIn (p : Vector Word 20) : (s.holdPacket p).sxIn = s.sxIn := rfl
@[simp] theorem State.holdPacket_sxOut (p : Vector Word 20) : (s.holdPacket p).sxOut = s.sxOut := rfl
@[simp] theorem State.holdPacket_vlimPress (p : Vector Word 20) : (s.holdPacket p).vlimPress = s.vlimPress := rfl
@[simp] theorem State.holdPacket_vlimLat (p : Vector Word 20) : (s.holdPacket p).vlimLat = s.vlimLat := rfl
@[simp] theorem State.holdPacket_vlimLon (p : Vector Word 20) : (s.holdPacket p).vlimLon = s.vlimLon := rfl
@[simp] theorem State.holdPacket_vlimTemp (p : Vector Word 20) : (s.holdPacket p).vlimTemp = s.vlimTemp := rfl
@[simp] theorem State.holdPacket_pkt (p : Vector Word 20) : (s.holdPacket p).pkt = p := rfl
@[simp] theorem State.holdPacket_pktValid (p : Vector Word 20) : (s.holdPacket p).pktValid = true := rfl
@[simp] theorem State.holdPacket_pktPushed (p : Vector Word 20) : (s.holdPacket p).pktPushed = false := rfl
@[simp] theorem State.holdPacket_diagDummy (p : Vector Word 20) : (s.holdPacket p).diagDummy = (p[5] != 0#32) := rfl
@[simp] theorem State.holdPacket_implWhy (p : Vector Word 20) : (s.holdPacket p).implWhy = 0#4 := rfl
@[simp] theorem State.holdPacket_passActive (p : Vector Word 20) : (s.holdPacket p).passActive = s.passActive := rfl
@[simp] theorem State.holdPacket_prevValid (p : Vector Word 20) : (s.holdPacket p).prevValid = s.prevValid := rfl
@[simp] theorem State.holdPacket_verdict (p : Vector Word 20) : (s.holdPacket p).verdict = s.verdict := rfl
@[simp] theorem State.holdPacket_ctrl (p : Vector Word 20) : (s.holdPacket p).ctrl = s.ctrl := rfl
@[simp] theorem State.holdPacket_maxJump (p : Vector Word 20) : (s.holdPacket p).maxJump = s.maxJump := rfl
@[simp] theorem State.holdPacket_chan (p : Vector Word 20) : (s.holdPacket p).chan = s.chan := rfl
@[simp] theorem State.holdPacket_cam (p : Vector Word 20) : (s.holdPacket p).cam = s.cam := rfl
@[simp] theorem State.holdPacket_prevTime (p : Vector Word 20) : (s.holdPacket p).prevTime = s.prevTime := rfl
@[simp] theorem State.holdPacket_seqIdx (p : Vector Word 20) : (s.holdPacket p).seqIdx = s.seqIdx := rfl
@[simp] theorem State.holdPacket_lastDelta (p : Vector Word 20) : (s.holdPacket p).lastDelta = s.lastDelta := rfl
@[simp] theorem State.holdPacket_accCount (p : Vector Word 20) : (s.holdPacket p).accCount = s.accCount := rfl
@[simp] theorem State.holdPacket_dropTime (p : Vector Word 20) : (s.holdPacket p).dropTime = s.dropTime := rfl
@[simp] theorem State.holdPacket_dropRange (p : Vector Word 20) : (s.holdPacket p).dropRange = s.dropRange := rfl
@[simp] theorem State.holdPacket_dropManual (p : Vector Word 20) : (s.holdPacket p).dropManual = s.dropManual := rfl
@[simp] theorem State.holdPacket_decOk (p : Vector Word 20) : (s.holdPacket p).decOk = s.decOk + 1#32 := rfl
@[simp] theorem State.holdPacket_decFail (p : Vector Word 20) : (s.holdPacket p).decFail = s.decFail := rfl
@[simp] theorem State.holdPacket_result (p : Vector Word 20) : (s.holdPacket p).result = s.result := rfl
@[simp] theorem State.holdPacket_err (p : Vector Word 20) : (s.holdPacket p).err = s.err := rfl
@[simp] theorem State.holdPacket_bus (p : Vector Word 20) : (s.holdPacket p).bus = s.bus := rfl
@[simp] theorem State.holdPacket_config (p : Vector Word 20) : (s.holdPacket p).config = s.config := rfl
@[simp] theorem State.holdPacket_resets (p : Vector Word 20) : (s.holdPacket p).resets = s.resets := rfl

/-! ### softResetRegs -/

@[simp] theorem State.softResetRegs_rbuf : s.softResetRegs.rbuf = s.rbuf := rfl
@[simp] theorem State.softResetRegs_rlen : s.softResetRegs.rlen = 0#8 := rfl
@[simp] theorem State.softResetRegs_curLen : s.softResetRegs.curLen = 0 := rfl
@[simp] theorem State.softResetRegs_curPos : s.softResetRegs.curPos = 0 := rfl
@[simp] theorem State.softResetRegs_curData : s.softResetRegs.curData = 0#32 := rfl
@[simp] theorem State.softResetRegs_sxIn : s.softResetRegs.sxIn = 0#32 := rfl
@[simp] theorem State.softResetRegs_sxOut : s.softResetRegs.sxOut = 0#32 := rfl
@[simp] theorem State.softResetRegs_vlimPress : s.softResetRegs.vlimPress = Config.vlimPressReset := rfl
@[simp] theorem State.softResetRegs_vlimLat : s.softResetRegs.vlimLat = Config.vlimLatReset := rfl
@[simp] theorem State.softResetRegs_vlimLon : s.softResetRegs.vlimLon = Config.vlimLonReset := rfl
@[simp] theorem State.softResetRegs_vlimTemp : s.softResetRegs.vlimTemp = Config.vlimTempReset := rfl
@[simp] theorem State.softResetRegs_pkt : s.softResetRegs.pkt = Vector.replicate 20 0#32 := rfl
@[simp] theorem State.softResetRegs_pktValid : s.softResetRegs.pktValid = false := rfl
@[simp] theorem State.softResetRegs_pktPushed : s.softResetRegs.pktPushed = false := rfl
@[simp] theorem State.softResetRegs_diagDummy : s.softResetRegs.diagDummy = false := rfl
@[simp] theorem State.softResetRegs_implWhy : s.softResetRegs.implWhy = 0#4 := rfl
@[simp] theorem State.softResetRegs_passActive : s.softResetRegs.passActive = false := rfl
@[simp] theorem State.softResetRegs_prevValid : s.softResetRegs.prevValid = false := rfl
@[simp] theorem State.softResetRegs_verdict : s.softResetRegs.verdict = .noPush := rfl
@[simp] theorem State.softResetRegs_ctrl : s.softResetRegs.ctrl = 0#5 := rfl
@[simp] theorem State.softResetRegs_maxJump : s.softResetRegs.maxJump = 0#32 := rfl
@[simp] theorem State.softResetRegs_chan : s.softResetRegs.chan = Vector.replicate 18 ChanBound.reset := rfl
@[simp] theorem State.softResetRegs_cam : s.softResetRegs.cam = Vector.replicate 64 CamEntry.reset := rfl
@[simp] theorem State.softResetRegs_prevTime : s.softResetRegs.prevTime = 0#24 := rfl
@[simp] theorem State.softResetRegs_seqIdx : s.softResetRegs.seqIdx = 0#32 := rfl
@[simp] theorem State.softResetRegs_lastDelta : s.softResetRegs.lastDelta = 0#32 := rfl
@[simp] theorem State.softResetRegs_accCount : s.softResetRegs.accCount = 0#32 := rfl
@[simp] theorem State.softResetRegs_dropTime : s.softResetRegs.dropTime = 0#32 := rfl
@[simp] theorem State.softResetRegs_dropRange : s.softResetRegs.dropRange = 0#32 := rfl
@[simp] theorem State.softResetRegs_dropManual : s.softResetRegs.dropManual = 0#32 := rfl
@[simp] theorem State.softResetRegs_decOk : s.softResetRegs.decOk = 0#32 := rfl
@[simp] theorem State.softResetRegs_decFail : s.softResetRegs.decFail = 0#32 := rfl
@[simp] theorem State.softResetRegs_result : s.softResetRegs.result = .ok := rfl
@[simp] theorem State.softResetRegs_err : s.softResetRegs.err = 0#10 := rfl
@[simp] theorem State.softResetRegs_bus : s.softResetRegs.bus = s.bus := rfl
@[simp] theorem State.softResetRegs_config : s.softResetRegs.config = s.config := rfl
@[simp] theorem State.softResetRegs_resets : s.softResetRegs.resets = s.resets := rfl

/-! ### hardResetRegs -/

@[simp] theorem State.hardResetRegs_rbuf : s.hardResetRegs.rbuf = Config.freeRecord (s.resets + 1) := rfl
@[simp] theorem State.hardResetRegs_rlen : s.hardResetRegs.rlen = 0#8 := rfl
@[simp] theorem State.hardResetRegs_curLen : s.hardResetRegs.curLen = 0 := rfl
@[simp] theorem State.hardResetRegs_curPos : s.hardResetRegs.curPos = 0 := rfl
@[simp] theorem State.hardResetRegs_curData : s.hardResetRegs.curData = 0#32 := rfl
@[simp] theorem State.hardResetRegs_sxIn : s.hardResetRegs.sxIn = 0#32 := rfl
@[simp] theorem State.hardResetRegs_sxOut : s.hardResetRegs.sxOut = 0#32 := rfl
@[simp] theorem State.hardResetRegs_vlimPress : s.hardResetRegs.vlimPress = Config.vlimPressReset := rfl
@[simp] theorem State.hardResetRegs_vlimLat : s.hardResetRegs.vlimLat = Config.vlimLatReset := rfl
@[simp] theorem State.hardResetRegs_vlimLon : s.hardResetRegs.vlimLon = Config.vlimLonReset := rfl
@[simp] theorem State.hardResetRegs_vlimTemp : s.hardResetRegs.vlimTemp = Config.vlimTempReset := rfl
@[simp] theorem State.hardResetRegs_pkt : s.hardResetRegs.pkt = Vector.replicate 20 0#32 := rfl
@[simp] theorem State.hardResetRegs_pktValid : s.hardResetRegs.pktValid = false := rfl
@[simp] theorem State.hardResetRegs_pktPushed : s.hardResetRegs.pktPushed = false := rfl
@[simp] theorem State.hardResetRegs_diagDummy : s.hardResetRegs.diagDummy = false := rfl
@[simp] theorem State.hardResetRegs_implWhy : s.hardResetRegs.implWhy = 0#4 := rfl
@[simp] theorem State.hardResetRegs_passActive : s.hardResetRegs.passActive = false := rfl
@[simp] theorem State.hardResetRegs_prevValid : s.hardResetRegs.prevValid = false := rfl
@[simp] theorem State.hardResetRegs_verdict : s.hardResetRegs.verdict = .noPush := rfl
@[simp] theorem State.hardResetRegs_ctrl : s.hardResetRegs.ctrl = 0#5 := rfl
@[simp] theorem State.hardResetRegs_maxJump : s.hardResetRegs.maxJump = 0#32 := rfl
@[simp] theorem State.hardResetRegs_chan : s.hardResetRegs.chan = Vector.replicate 18 ChanBound.reset := rfl
@[simp] theorem State.hardResetRegs_cam : s.hardResetRegs.cam = Vector.replicate 64 CamEntry.reset := rfl
@[simp] theorem State.hardResetRegs_prevTime : s.hardResetRegs.prevTime = 0#24 := rfl
@[simp] theorem State.hardResetRegs_seqIdx : s.hardResetRegs.seqIdx = 0#32 := rfl
@[simp] theorem State.hardResetRegs_lastDelta : s.hardResetRegs.lastDelta = 0#32 := rfl
@[simp] theorem State.hardResetRegs_accCount : s.hardResetRegs.accCount = 0#32 := rfl
@[simp] theorem State.hardResetRegs_dropTime : s.hardResetRegs.dropTime = 0#32 := rfl
@[simp] theorem State.hardResetRegs_dropRange : s.hardResetRegs.dropRange = 0#32 := rfl
@[simp] theorem State.hardResetRegs_dropManual : s.hardResetRegs.dropManual = 0#32 := rfl
@[simp] theorem State.hardResetRegs_decOk : s.hardResetRegs.decOk = 0#32 := rfl
@[simp] theorem State.hardResetRegs_decFail : s.hardResetRegs.decFail = 0#32 := rfl
@[simp] theorem State.hardResetRegs_result : s.hardResetRegs.result = .ok := rfl
@[simp] theorem State.hardResetRegs_err : s.hardResetRegs.err = 0#10 := rfl
@[simp] theorem State.hardResetRegs_bus : s.hardResetRegs.bus = s.bus := rfl
@[simp] theorem State.hardResetRegs_config : s.hardResetRegs.config = s.config := rfl
@[simp] theorem State.hardResetRegs_resets : s.hardResetRegs.resets = s.resets + 1 := rfl

end Sys2Proof.Machine
end

