-- ==== Sys2Proof/Laws/Ops.lean ====
section
/-! SUPPORT. What each shared operation does, said once: the bits and words of the record buffer,
ending a command, sign extension, and the push. -/

namespace Sys2Proof.Machine

/-! ### Record bits -/

theorem recordBit_toNat (r : Vector Byte 42) (k : Nat) :
    (recordBit r k).toNat = (recordByte r (k / 8)).toNat / 2 ^ (k % 8) % 2 := by
  rw [recordBit, BitVec.getLsbD, Nat.testBit_eq_decide_div_mod_eq]
  have : (recordByte r (k / 8)).toNat / 2 ^ (k % 8) % 2 < 2 := Nat.mod_lt _ (by decide)
  generalize (recordByte r (k / 8)).toNat / 2 ^ (k % 8) % 2 = x at *
  obtain rfl | rfl : x = 0 ∨ x = 1 := by omega
  all_goals rfl

theorem readBits_lt (r : Vector Byte 42) (p n : Nat) : readBits r p n < 2 ^ n := by
  induction n generalizing p with
  | zero => simp [readBits]
  | succ n ih =>
    have h := ih (p + 1)
    have hb := Bool.toNat_le (recordBit r p)
    rw [readBits, Nat.pow_succ]
    omega

/-- A read of m + n bits is a read of m bits followed by one of n (40_bitcursor.md R147). -/
theorem readBits_append (r : Vector Byte 42) (p m n : Nat) :
    readBits r p (m + n) = readBits r p m + readBits r (p + m) n * 2 ^ m := by
  induction m generalizing p with
  | zero => simp [readBits]
  | succ m ih =>
    rw [Nat.add_right_comm, readBits, ih, readBits, Nat.add_right_comm p 1 m, ← Nat.add_assoc p m 1,
      Nat.pow_succ]
    ring

theorem readBits_eq_sum (r : Vector Byte 42) (p n : Nat) :
    readBits r p n = ∑ j ∈ Finset.range n, (recordBit r (p + j)).toNat * 2 ^ j := by
  induction n with
  | zero => rfl
  | succ n ih =>
    rw [readBits_append, Finset.sum_range_succ, ih]
    simp [readBits]

/-- Eight bits from a byte boundary are the byte (20_memory.md R79). -/
theorem readBits_byte (r : Vector Byte 42) (j : Nat) :
    readBits r (8 * j) 8 = (recordByte r j).toNat := by
  have h : ∀ i, i < 8 → recordBit r (8 * j + i) = (recordByte r j).getLsbD i := by
    intro i hi
    rw [recordBit, show (8 * j + i) / 8 = j by omega, show (8 * j + i) % 8 = i by omega]
  have h0 := h 0 (by decide)
  rw [Nat.add_zero] at h0
  simp only [readBits, h0, h 1 (by decide), h 2 (by decide), h 3 (by decide), h 4 (by decide),
    h 5 (by decide), h 6 (by decide), h 7 (by decide), Nat.add_assoc, Nat.reduceAdd]
  generalize recordByte r j = b
  revert b
  decide

theorem recordByte_of_le (r : Vector Byte 42) {j : Nat} (h : 42 ≤ j) : recordByte r j = 0 := by
  simp [recordByte, h]

theorem recordByte_of_lt (r : Vector Byte 42) {j : Nat} (h : j < 42) : recordByte r j = r[j] := by
  simp [recordByte, h]

/-- Writing word w replaces the bytes of word w, little-endian (20_memory.md R76). -/
theorem setRecordWord_getElem (r : Vector Byte 42) (w : Fin 11) (v : Word) (j : Nat) (h : j < 42) :
    (setRecordWord r w v)[j] =
      if j / 4 = w.val then v.extractLsb' (8 * (j % 4)) 8 else r[j] := by
  simp only [setRecordWord, Vector.getElem_setIfInBounds]
  by_cases hw : j / 4 = w.val
  · have hj : j = 4 * w.val + j % 4 := by omega
    have hm : j % 4 = 0 ∨ j % 4 = 1 ∨ j % 4 = 2 ∨ j % 4 = 3 := by omega
    rcases hm with hm | hm | hm | hm <;> simp only [hw, hm, if_true] <;> rw [hm] at hj <;>
      simp [hj]
  · simp only [hw, if_false]
    rw [if_neg (by omega), if_neg (by omega), if_neg (by omega), if_neg (by omega)]

/-- A record word in its bytes, little-endian (10_state.md R42). -/
theorem recordWord_toNat (r : Vector Byte 42) (w : Fin 11) :
    (recordWord r w).toNat = (recordByte r (4 * w.val)).toNat +
      (recordByte r (4 * w.val + 1)).toNat * 2 ^ 8 +
      (recordByte r (4 * w.val + 2)).toNat * 2 ^ 16 +
      (recordByte r (4 * w.val + 3)).toNat * 2 ^ 24 := by
  have h0 := (recordByte r (4 * w.val)).isLt
  have h1 := (recordByte r (4 * w.val + 1)).isLt
  have h2 := (recordByte r (4 * w.val + 2)).isLt
  simp only [recordWord, BitVec.toNat_append]
  rw [← Nat.shiftLeft_add_eq_or_of_lt h2, ← Nat.shiftLeft_add_eq_or_of_lt h1,
    ← Nat.shiftLeft_add_eq_or_of_lt h0]
  simp only [Nat.shiftLeft_eq]
  ring

/-! ### Ending a command -/

theorem ResultCode.errMask_ok : ResultCode.ok.errMask = 0 := rfl

/-- What ending a command does, OK or not (45_control.md R273). -/
theorem State.finish_eq (c : ResultCode) (s : State) :
    State.finish (c, s) = { s with result := c, err := s.err ||| c.errMask } := by
  cases c <;> simp [State.finish, State.succeed, State.raise, ResultCode.errMask]

/-! ### Sign extension -/

/-- The result of a sign extension fits b bits, so no width up to 32 overflows
(41_fieldcodec.md R162). -/
theorem signExtend_bounds {v b : Nat} (hb : 1 ≤ b) (hv : v < 2 ^ b) :
    -2 ^ (b - 1) ≤ signExtend v b ∧ signExtend v b < 2 ^ (b - 1) := by
  obtain ⟨m, rfl⟩ : ∃ m, b = m + 1 := ⟨b - 1, by omega⟩
  rw [signExtend, Nat.add_sub_cancel]
  have h2 : (2 : Nat) ^ (m + 1) = 2 * 2 ^ m := by ring
  have h2z : (2 : Int) ^ (m + 1) = 2 * 2 ^ m := by ring
  have hc : ((2 ^ m : Nat) : Int) = (2 : Int) ^ m := by push_cast; rfl
  rw [Nat.testBit_eq_decide_div_mod_eq]
  by_cases hle : 2 ^ m ≤ v
  · have hd : v / 2 ^ m = 1 := by
      apply Nat.div_eq_of_lt_le <;> omega
    simp only [hd, decide_true, Nat.one_mod, if_true, h2z]
    omega
  · have hd : v / 2 ^ m = 0 := Nat.div_eq_of_lt (by omega)
    simp only [hd, Nat.zero_mod, Nat.zero_ne_one, decide_false, Bool.false_eq_true, if_false]
    omega

/-- Sign extension by comparison with the sign bit's weight (00_scope.md R14). -/
theorem signExtend_eq {v b : Nat} (hb : 1 ≤ b) (hv : v < 2 ^ b) :
    signExtend v b = if 2 ^ (b - 1) ≤ v then (v : Int) - 2 ^ b else v := by
  obtain ⟨m, rfl⟩ : ∃ m, b = m + 1 := ⟨b - 1, by omega⟩
  rw [signExtend, Nat.add_sub_cancel, Nat.testBit_eq_decide_div_mod_eq]
  have h2 : (2 : Nat) ^ (m + 1) = 2 * 2 ^ m := by ring
  by_cases hle : 2 ^ m ≤ v
  · have hd : v / 2 ^ m = 1 := by apply Nat.div_eq_of_lt_le <;> omega
    simp [hd, hle]
  · have hd : v / 2 ^ m = 0 := Nat.div_eq_of_lt (by omega)
    simp [hd, hle]

/-- A 32-bit register holds every integer of 32 signed bits exactly (00_scope.md R14). -/
theorem toInt_u32 {x : Int} (h1 : -2 ^ 31 ≤ x) (h2 : x < 2 ^ 31) : (u32 x).toInt = x := by
  rw [u32, BitVec.toInt_ofInt]
  exact Int.bmod_eq_of_le (by norm_num; omega) (by norm_num; omega)

theorem toInt_u32_signExtend {v b : Nat} (hb : 1 ≤ b) (hb' : b ≤ 32) (hv : v < 2 ^ b) :
    (u32 (signExtend v b)).toInt = signExtend v b := by
  have h := signExtend_bounds hb hv
  have hp : (2 : Int) ^ (b - 1) ≤ 2 ^ 31 := pow_le_pow_right₀ (by norm_num) (by omega)
  exact toInt_u32 (by omega) (by omega)

/-! ### The stages -/

/-- When a comparison is made, and with which Δ (44_filterpipeline.md R243). -/
theorem State.timeDelta_eq_some_iff (s : State) (d : Int) :
    s.timeDelta = some d ↔ s.timeEn = true ∧ s.prevValid = true ∧
      d = if (s.pkt[0].toNat : Int) - s.prevTime.toNat < 0 ∧ s.allowWrap = true then
          (s.pkt[0].toNat : Int) - s.prevTime.toNat + 2 ^ 24
        else (s.pkt[0].toNat : Int) - s.prevTime.toNat := by
  unfold State.timeDelta
  cases s.timeEn <;> cases s.prevValid <;> simp only [Bool.and_self, Bool.and_true, Bool.and_false,
    Bool.false_eq_true, if_false, if_true, reduceCtorEq, false_and, and_false, true_and,
    Option.some.injEq, uval]
  exact eq_comm

/-- When the time stage fails the packet (44_filterpipeline.md R243). -/
theorem State.timeFails_iff (s : State) :
    s.timeFails = true ↔ ∃ d, s.timeDelta = some d ∧
      (s.maxJumpEn = true ∧ s.maxJump.toInt < d ∨ d < 0 ∧ s.allowWrap = false) := by
  unfold State.timeFails
  cases s.timeDelta <;> simp

/-- When the range stage fails the packet (44_filterpipeline.md R248 to R250). -/
theorem State.rangeFails_iff (s : State) :
    s.rangeFails = true ↔ s.rangeEn = true ∧ ∃ c : Fin 18,
      (s.chan[c].minEn = true ∧ s.chanValue c < s.chan[c].min.toInt ∨
        s.chan[c].maxEn = true ∧ s.chan[c].max.toInt < s.chanValue c) := by
  unfold State.rangeFails ChanBound.violatedBy
  simp

/-- When the manual stage fails the packet (44_filterpipeline.md R252). -/
theorem State.manualFails_iff (s : State) :
    s.manualFails = true ↔ s.manualEn = true ∧ ∃ k : Fin 64, k.val < s.config.nExcl ∧
      s.cam[k].valid = true ∧ s.cam[k].lo.toNat ≤ s.seqIdx.toNat ∧
      s.seqIdx.toNat ≤ s.cam[k].hi.toNat := by
  unfold State.manualFails CamEntry.excludes
  simp [and_assoc]

/-- A magnitude against a limit, in integers (42_packetdecoder.md R185). -/
theorem lt_magnitude_iff (limit w : Word) :
    limit.toNat < magnitude w ↔ (limit.toNat : Int) < |w.toInt| := by
  unfold magnitude s32
  rw [← Int.natCast_natAbs]
  exact Int.ofNat_lt.symm

/-! ### The push -/

/-- What `push_body` does, in one record (44_filterpipeline.md R234). -/
theorem State.pushBody_eq (s : State) :
    s.pushBody = { s with
      lastDelta := u32 (s.timeDelta.getD 0)
      prevTime := if s.movesBaseline then s.pkt[0].setWidth 24 else s.prevTime
      prevValid := s.movesBaseline || s.prevValid
      accCount := if s.pushVerdict = .accept then s.accCount + 1#32 else s.accCount
      dropTime := if s.pushVerdict = .dropTime then s.dropTime + 1#32 else s.dropTime
      dropRange := if s.pushVerdict = .dropRange then s.dropRange + 1#32 else s.dropRange
      dropManual := if s.pushVerdict = .dropManual then s.dropManual + 1#32 else s.dropManual
      verdict := s.pushVerdict
      pktPushed := true
      seqIdx := s.seqIdx + 1#32 } := by
  rw [State.pushBody]
  cases s.movesBaseline <;> cases s.pushVerdict <;>
    simp [State.updateBaseline, State.countVerdict]

/-- A push has one of the four verdicts (44_filterpipeline.md R235). -/
theorem State.pushVerdict_cases (s : State) :
    (s.timeFails = true ∧ s.pushVerdict = .dropTime) ∨
    (s.timeFails = false ∧ s.rangeFails = true ∧ s.pushVerdict = .dropRange) ∨
    (s.timeFails = false ∧ s.rangeFails = false ∧ s.manualFails = true ∧
      s.pushVerdict = .dropManual) ∨
    (s.timeFails = false ∧ s.rangeFails = false ∧ s.manualFails = false ∧
      s.pushVerdict = .accept) := by
  unfold State.pushVerdict
  cases s.timeFails <;> cases s.rangeFails <;> cases s.manualFails <;> simp

theorem State.pushVerdict_ne_noPush (s : State) : s.pushVerdict ≠ .noPush := by
  rcases s.pushVerdict_cases with h | h | h | h <;> simp [h]

/-! ### The decode -/

/-- The rows are read to the last bit of the record (30_encoding.md R103). -/
theorem firstBit_end : firstBit 20 = 336 := by decide

/-- Which of the three ends a decode has (42_packetdecoder.md R182). -/
theorem State.decodeBody_cases (s : State) :
    (s.rlen ≠ 42#8 ∧ s.decodeBody = (.wrongLength, s.holdNoRecord)) ∨
    (s.rlen = 42#8 ∧ s.plausibility (decodedFields s.rbuf) ≠ 0#4 ∧
      s.decodeBody = (.implausible,
        s.holdImplausible (decodedFields s.rbuf) (s.plausibility (decodedFields s.rbuf)))) ∨
    (s.rlen = 42#8 ∧ s.plausibility (decodedFields s.rbuf) = 0#4 ∧
      s.decodeBody = (.ok, s.holdPacket (decodedFields s.rbuf))) := by
  unfold State.decodeBody
  by_cases h : s.rlen = 42#8
  · by_cases hw : s.plausibility (decodedFields s.rbuf) = 0#4
    · simp [h, hw]
    · simp [h, hw]
  · simp [h]

/-- The fields a decode leaves are in their ranges (30_encoding.md R105). -/
theorem decodedFields_inRange (r : Vector Byte 42) (j : Fin 20) :
    layout[j].kind.inRange layout[j].width (decodedFields r)[j] := by
  have hw : 1 ≤ layout[j].width ∧ layout[j].width ≤ 30 := by revert j; decide
  have hraw : rawField r j < 2 ^ layout[j].width := readBits_lt _ _ _
  have h32 : 2 ^ layout[j].width < 2 ^ 32 := Nat.pow_lt_pow_right (by decide) (by omega)
  have hd : (decodedFields r)[j] = layout[j].kind.convert layout[j].width (rawField r j) := by
    simp [decodedFields]
  rw [hd]
  cases hk : layout[j].kind with
  | signed =>
    simp only [FieldKind.inRange, FieldKind.convert, s32]
    rw [toInt_u32_signExtend hw.1 (by omega) hraw]
    exact signExtend_bounds hw.1 hraw
  | unsigned =>
    simp only [FieldKind.inRange, FieldKind.convert, uval, BitVec.toNat_ofNat]
    rw [Nat.mod_eq_of_lt (by omega)]
    exact hraw
  | bitfield =>
    simp only [FieldKind.inRange, FieldKind.convert, uval, BitVec.toNat_ofNat]
    rw [Nat.mod_eq_of_lt (by omega)]
    exact hraw
  | discarded =>
    simp only [FieldKind.inRange, FieldKind.convert, uval, BitVec.toNat_ofNat]
    rw [Nat.mod_eq_of_lt (by omega)]
    exact hraw

end Sys2Proof.Machine
end

