-- ==== Sys2Proof/Laws/Exec.lean ====
section
/-! SUPPORT. What each command answers, said once: the cases of its rule, each with the state it
leaves. -/

namespace Sys2Proof.Machine

/-- CUR_RESET (40_bitcursor.md R145). -/
theorem execCurReset_cases (s : State) :
    (42 < s.rlen.toNat ∧ execCurReset s = .next (s.raise .operandRange)) ∨
    (s.rlen.toNat ≤ 42 ∧ execCurReset s =
      .next { s with
        curLen := Fin.ofNat 43 s.rlen.toNat, curPos := 0, result := .ok }) := by
  unfold execCurReset
  by_cases h : 42 < s.rlen.toNat
  · exact .inl ⟨h, if_pos h⟩
  · exact .inr ⟨by omega, if_neg h⟩

/-- CUR_READ n (40_bitcursor.md R146). -/
theorem execCurRead_cases (n : Nat) (s : State) :
    (32 < n ∧ execCurRead n s = .next (s.raise .operandRange)) ∨
    (n ≤ 32 ∧ 8 * s.curLen.val < s.curPos.val + n ∧
      execCurRead n s = .next (s.raise .outOfRange)) ∨
    (n ≤ 32 ∧ s.curPos.val + n ≤ 8 * s.curLen.val ∧ execCurRead n s =
      .next { s with
        curData := BitVec.ofNat 32 (readBits s.rbuf s.curPos.val n)
        curPos := Fin.ofNat 337 (s.curPos.val + n), result := .ok }) := by
  unfold execCurRead
  by_cases h : 32 < n
  · exact .inl ⟨h, if_pos h⟩
  · by_cases h' : 8 * s.curLen.val < s.curPos.val + n
    · exact .inr (.inl ⟨by omega, h', (if_neg h).trans (if_pos h')⟩)
    · exact .inr (.inr ⟨by omega, by omega, (if_neg h).trans (if_neg h')⟩)

/-- The new position of a read that fits is exact (40_bitcursor.md R141). -/
theorem curPos_after_read {s : State} {n : Nat} (h : s.curPos.val + n ≤ 8 * s.curLen.val) :
    (Fin.ofNat 337 (s.curPos.val + n)).val = s.curPos.val + n := by
  have := s.curLen.isLt
  simp only [Fin.val_ofNat]
  exact Nat.mod_eq_of_lt (by omega)

/-- A read of at most 32 bits fits CUR_DATA (40_bitcursor.md R146). -/
theorem curData_after_read {n : Nat} (r : Vector Byte 42) (p : Nat) (h : n ≤ 32) :
    (BitVec.ofNat 32 (readBits r p n)).toNat = readBits r p n := by
  have h1 := readBits_lt r p n
  have h2 : 2 ^ n ≤ 2 ^ 32 := Nat.pow_le_pow_right (by decide) h
  rw [BitVec.toNat_ofNat]
  exact Nat.mod_eq_of_lt (by omega)

/-- SEXT bits (41_fieldcodec.md R160). -/
theorem execSext_cases (b : Nat) (s : State) :
    ((b = 0 ∨ 32 < b ∨ 2 ^ b ≤ uval s.sxIn) ∧
      execSext b s = .next (s.raise .operandRange)) ∨
    (1 ≤ b ∧ b ≤ 32 ∧ uval s.sxIn < 2 ^ b ∧ execSext b s =
      .next { s with sxOut := u32 (signExtend (uval s.sxIn) b), result := .ok }) := by
  unfold execSext
  by_cases h : b = 0 ∨ 32 < b
  · exact .inl ⟨h.imp_right .inl, if_pos h⟩
  · by_cases h' : 2 ^ b ≤ uval s.sxIn
    · exact .inl ⟨.inr (.inr h'), (if_neg h).trans (if_pos h')⟩
    · exact .inr ⟨by omega, by omega, by omega, (if_neg h).trans (if_neg h')⟩

/-- DECODE ends with one of three codes (42_packetdecoder.md R182). -/
theorem execDecode_cases (s : State) :
    (s.rlen ≠ 42#8 ∧ execDecode s = .next (s.holdNoRecord.raise .wrongLength)) ∨
    (s.rlen = 42#8 ∧ s.plausibility (decodedFields s.rbuf) ≠ 0#4 ∧ execDecode s =
      .next ((s.holdImplausible (decodedFields s.rbuf)
        (s.plausibility (decodedFields s.rbuf))).raise .implausible)) ∨
    (s.rlen = 42#8 ∧ s.plausibility (decodedFields s.rbuf) = 0#4 ∧
      execDecode s = .next (s.holdPacket (decodedFields s.rbuf)).succeed) := by
  unfold execDecode
  rcases s.decodeBody_cases with ⟨h, hb⟩ | ⟨h, hw, hb⟩ | ⟨h, hw, hb⟩
  · exact .inl ⟨h, by rw [hb]; rfl⟩
  · exact .inr (.inl ⟨h, hw, by rw [hb]; rfl⟩)
  · exact .inr (.inr ⟨h, hw, by rw [hb]; rfl⟩)

/-- DECODE_PUSH (43_batchdecoder.md R211). -/
theorem execDecodePush_cases (s : State) :
    (s.passActive = false ∧ execDecodePush s = .next (s.raise .noPass)) ∨
    (s.passActive = true ∧ s.seqIdx = 0xFFFFFFFF#32 ∧
      execDecodePush s = .next (s.raise .seqOverflow)) ∨
    (s.passActive = true ∧ s.seqIdx ≠ 0xFFFFFFFF#32 ∧ s.rlen ≠ 42#8 ∧
      execDecodePush s = .next (s.holdNoRecord.raise .wrongLength)) ∨
    (s.passActive = true ∧ s.seqIdx ≠ 0xFFFFFFFF#32 ∧ s.rlen = 42#8 ∧
      s.plausibility (decodedFields s.rbuf) ≠ 0#4 ∧ execDecodePush s =
      .next ((s.holdImplausible (decodedFields s.rbuf)
        (s.plausibility (decodedFields s.rbuf))).raise .implausible)) ∨
    (s.passActive = true ∧ s.seqIdx ≠ 0xFFFFFFFF#32 ∧ s.rlen = 42#8 ∧
      s.plausibility (decodedFields s.rbuf) = 0#4 ∧
      execDecodePush s = .next (s.holdPacket (decodedFields s.rbuf)).pushBody.succeed) := by
  unfold execDecodePush
  cases hp : s.passActive with
  | false => exact .inl ⟨rfl, if_pos rfl⟩
  | true =>
    by_cases hq : s.seqIdx = 0xFFFFFFFF#32
    · exact .inr (.inl ⟨rfl, hq, (if_neg (by decide)).trans (if_pos hq)⟩)
    · rw [if_neg (by decide), if_neg hq]
      rcases s.decodeBody_cases with ⟨h, hb⟩ | ⟨h, hw, hb⟩ | ⟨h, hw, hb⟩
      · exact .inr (.inr (.inl ⟨rfl, hq, h, by rw [hb]; rfl⟩))
      · exact .inr (.inr (.inr (.inl ⟨rfl, hq, h, hw, by rw [hb]; rfl⟩)))
      · exact .inr (.inr (.inr (.inr ⟨rfl, hq, h, hw, by rw [hb]; rfl⟩)))

/-- FILTER_PUSH (44_filterpipeline.md R233). -/
theorem execFilterPush_cases (s : State) :
    (s.passActive = false ∧ execFilterPush s = .next (s.raise .noPass)) ∨
    (s.passActive = true ∧ (s.pktValid = false ∨ s.pktPushed = true) ∧
      execFilterPush s = .next (s.raise .notValid)) ∨
    (s.passActive = true ∧ s.pktValid = true ∧ s.pktPushed = false ∧ s.seqIdx = 0xFFFFFFFF#32 ∧
      execFilterPush s = .next (s.raise .seqOverflow)) ∨
    (s.passActive = true ∧ s.pktValid = true ∧ s.pktPushed = false ∧ s.seqIdx ≠ 0xFFFFFFFF#32 ∧
      execFilterPush s = .next s.pushBody.succeed) := by
  unfold execFilterPush
  cases hp : s.passActive <;> cases hv : s.pktValid <;> cases hu : s.pktPushed <;>
    by_cases hq : s.seqIdx = 0xFFFFFFFF#32 <;> simp [hq]

/-- Every command completes (70_reset_and_hazards.md R361). -/
theorem exec_next (i : Instr) (s : State) : ∃ t, exec i s = .next t := by
  cases i with
  | nop => exact ⟨_, rfl⟩
  | curReset => rcases execCurReset_cases s with ⟨_, h⟩ | ⟨_, h⟩ <;> exact ⟨_, h⟩
  | curRead n =>
    rcases execCurRead_cases n s with ⟨_, h⟩ | ⟨_, _, h⟩ | ⟨_, _, h⟩ <;> exact ⟨_, h⟩
  | sext b => rcases execSext_cases b s with ⟨_, h⟩ | ⟨_, _, _, h⟩ <;> exact ⟨_, h⟩
  | decode => exact ⟨_, rfl⟩
  | decodePush =>
    rcases execDecodePush_cases s with ⟨_, h⟩ | ⟨_, _, h⟩ | ⟨_, _, _, h⟩ | ⟨_, _, _, _, h⟩ |
      ⟨_, _, _, _, h⟩ <;> exact ⟨_, h⟩
  | filterBegin => exact ⟨_, rfl⟩
  | filterPush =>
    rcases execFilterPush_cases s with ⟨_, h⟩ | ⟨_, _, h⟩ | ⟨_, _, _, _, h⟩ | ⟨_, _, _, _, h⟩ <;>
      exact ⟨_, h⟩
  | filterEnd => exact ⟨_, rfl⟩
  | softReset => exact ⟨_, rfl⟩

end Sys2Proof.Machine
end

