-- ==== Sys2Proof/Laws/Step.lean ====
section
/-! SUPPORT. The register map read backwards, and everything one step can do. -/

namespace Sys2Proof.Machine

theorem fixedRegAt_offset {a : Nat} {r : Reg} (h : fixedRegAt a = some r) : a = r.offset := by
  unfold fixedRegAt at h
  split at h <;> first | (cases h; rfl) | cases h

/-- The group register of a slot, and the slot it is at. -/
theorem groupRegAt_cases {r0 r4 r8 r : Reg} {slot : Nat} (h : groupRegAt r0 r4 r8 slot = some r) :
    (slot = 0 ∧ r = r0) ∨ (slot = 4 ∧ r = r4) ∨ (slot = 8 ∧ r = r8) := by
  unfold groupRegAt at h
  split_ifs at h <;> simp_all

/-- A mapped offset is the offset of its register (10_state.md section 2). -/
theorem regAt_offset {config : Config} {a : Nat} {r : Reg} (h : regAt config a = some r) :
    a = r.offset := by
  unfold regAt at h
  split_ifs at h with h1 h2 h3 h4 h5 h6 h7
  · exact fixedRegAt_offset h
  · cases h; simp only [Reg.offset]; omega
  · cases h; simp only [Reg.offset]; omega
  · rcases groupRegAt_cases h with ⟨hs, rfl⟩ | ⟨hs, rfl⟩ | ⟨hs, rfl⟩ <;>
      simp only [Reg.offset] <;> omega
  · dsimp only at h
    split_ifs at h
    rcases groupRegAt_cases h with ⟨hs, rfl⟩ | ⟨hs, rfl⟩ | ⟨hs, rfl⟩ <;>
      simp only [Reg.offset] <;> omega

/-- A legal access reaches the register at its offset (20_memory.md R74). -/
theorem target_offset {s : State} {a : BitVec 12} {w : Nat} {r : Reg} (h : s.target a w = some r) :
    w = 32 ∧ a.toNat = r.offset ∧ regAt s.config a.toNat = some r := by
  unfold State.target at h
  split_ifs at h with hc
  exact ⟨hc.1, regAt_offset h, h⟩

theorem target_cmd {s : State} {a : BitVec 12} {w : Nat} (h : s.target a w = some .cmd) :
    w = 32 ∧ a = 0x008#12 := by
  obtain ⟨hw, ha, _⟩ := target_offset h
  exact ⟨hw, BitVec.eq_of_toNat_eq ha⟩

theorem target_err {s : State} {a : BitVec 12} {w : Nat} (h : s.target a w = some .err) :
    w = 32 ∧ a = 0x014#12 := by
  obtain ⟨hw, ha, _⟩ := target_offset h
  exact ⟨hw, BitVec.eq_of_toNat_eq ha⟩

/-- Everything one step of `s` can lead to (20_memory.md R72 to R77, 70_reset_and_hazards.md
R340). `s.afterTaking rest` is s with the event taken off. -/
inductive Transition (s : State) : State → Prop where
  | idle (h : s.bus.pending = []) : Transition s s
  | reset (rest : List HostEvent) (h : s.bus.pending = .hardReset :: rest) :
      Transition s (s.afterTaking rest).hardResetRegs
  | read (rest : List HostEvent) (a : BitVec 12) (w : Nat) (r : Reg)
      (h : s.bus.pending = .read a w :: rest) (ht : s.target a w = some r) :
      Transition s ((s.afterTaking rest).respond ⟨some (s.readReg r), false⟩)
  | readError (rest : List HostEvent) (a : BitVec 12) (w : Nat)
      (h : s.bus.pending = .read a w :: rest) (ht : s.target a w = none) :
      Transition s (((s.afterTaking rest).setErr errBus).respond ⟨some 0#32, true⟩)
  | writeError (rest : List HostEvent) (a : BitVec 12) (w : Nat) (v : Word)
      (h : s.bus.pending = .write a w v :: rest) (ht : s.target a w = none) :
      Transition s (((s.afterTaking rest).setErr errBus).respond ⟨none, true⟩)
  | write (rest : List HostEvent) (a : BitVec 12) (w : Nat) (v : Word) (r : Reg)
      (h : s.bus.pending = .write a w v :: rest) (ht : s.target a w = some r)
      (hc : r.accessClass = .rw ∨ (r.accessClass = .lk ∧ s.passActive = false)) :
      Transition s (((s.afterTaking rest).respond ⟨none, false⟩).writeReg r v)
  | ignored (rest : List HostEvent) (a : BitVec 12) (w : Nat) (v : Word) (r : Reg)
      (h : s.bus.pending = .write a w v :: rest) (ht : s.target a w = some r)
      (hc : r.accessClass = .ro) :
      Transition s ((s.afterTaking rest).respond ⟨none, false⟩)
  | acknowledge (rest : List HostEvent) (v : Word)
      (h : s.bus.pending = .write 0x014#12 32 v :: rest) :
      Transition s (((s.afterTaking rest).respond ⟨none, false⟩).acknowledge v)
  | locked (rest : List HostEvent) (a : BitVec 12) (w : Nat) (v : Word) (r : Reg)
      (h : s.bus.pending = .write a w v :: rest) (ht : s.target a w = some r)
      (hc : r.accessClass = .lk) (hp : s.passActive = true) :
      Transition s (((s.afterTaking rest).respond ⟨none, false⟩).setErr errCfgLocked)
  | command (rest : List HostEvent) (v : Word) (i : Instr) (t : State)
      (h : s.bus.pending = .write 0x008#12 32 v :: rest) (hd : decode v = .ok i)
      (he : exec i ((s.afterTaking rest).respond ⟨none, false⟩) = .next t) : Transition s t
  | illegal (rest : List HostEvent) (v : Word) (e : DecodeError)
      (h : s.bus.pending = .write 0x008#12 32 v :: rest) (hd : decode v = .error e) :
      Transition s (((s.afterTaking rest).respond ⟨none, false⟩).raise .illegalCmd)

theorem readReg_afterTaking (s : State) (rest : List HostEvent) (r : Reg) :
    (s.afterTaking rest).readReg r = s.readReg r := by
  cases r <;> rfl

/-- The inversion of `step`: a next state is one of the transitions. -/
theorem step_cases {s t : State} (h : step s = .next t) : Transition s t := by
  unfold step nextEvent at h
  split at h
  · rename_i hp
    cases h
    exact .idle hp
  · rename_i e rest hp
    unfold handleEvent at h
    cases e with
    | hardReset => cases h; exact .reset rest hp
    | read a w =>
      simp only [memRead] at h
      split at h
      · rename_i ht
        cases h
        exact .readError rest a w hp ht
      · rename_i r ht
        cases h
        rw [readReg_afterTaking]
        exact .read rest a w r hp ht
    | write a w v =>
      simp only [memWrite] at h
      split at h
      · rename_i ht
        cases h
        exact .writeError rest a w v hp ht
      · rename_i r ht
        unfold writeByClass at h
        split at h
        · rename_i hc
          cases h
          exact .write rest a w v r hp ht (.inl hc)
        · rename_i hc
          cases h
          exact .ignored rest a w v r hp ht hc
        · rename_i hc
          have hr : r = .err := by cases r <;> simp [Reg.accessClass] at hc ⊢
          subst hr
          cases h
          obtain ⟨rfl, rfl⟩ := target_err ht
          exact .acknowledge rest v hp
        · rename_i hc
          split at h
          · rename_i hl
            cases h
            exact .locked rest a w v r hp ht hc hl
          · rename_i hl
            cases h
            exact .write rest a w v r hp ht (.inr ⟨hc, by simpa using hl⟩)
        · rename_i hc
          have hr : r = .cmd := by cases r <;> simp [Reg.accessClass] at hc ⊢
          subst hr
          obtain ⟨rfl, rfl⟩ := target_cmd ht
          unfold executeCommand at h
          split at h
          · rename_i i hd
            exact .command rest v i t hp hd h
          · rename_i e hd
            cases h
            exact .illegal rest v e hp hd

/-- Every event completes (70_reset_and_hazards.md R361). -/
theorem handleEvent_next (e : HostEvent) (s : State) : ∃ t, handleEvent e s = .next t := by
  unfold handleEvent
  cases e with
  | hardReset => exact ⟨_, rfl⟩
  | read a w => simp only [memRead]; split <;> exact ⟨_, rfl⟩
  | write a w v =>
    simp only [memWrite]
    split
    · exact ⟨_, rfl⟩
    · unfold writeByClass
      split
      · exact ⟨_, rfl⟩
      · exact ⟨_, rfl⟩
      · exact ⟨_, rfl⟩
      · split <;> exact ⟨_, rfl⟩
      · unfold executeCommand
        split
        · exact exec_next _ _
        · exact ⟨_, rfl⟩

end Sys2Proof.Machine
end

