-- ==== Sys2Proof/Laws/HostProgram.lean ====
section
/-! SUPPORT. What the host's programs can do: accesses issued one after another, and the parts of a
configuration. -/

namespace Sys2Proof.Machine

/-- Every access completes, so a program of accesses does (70_reset_and_hazards.md R361). -/
theorem handleEvents_next (es : List HostEvent) (s : State) : ∃ t, handleEvents es s = .next t := by
  induction es generalizing s with
  | nil => exact ⟨s, rfl⟩
  | cons e es ih =>
    obtain ⟨t, ht⟩ := handleEvent_next e s
    simpa only [handleEvents, ht] using ih t

/-- A program made of two parts (20_memory.md R72). -/
theorem handleEvents_append {es : List HostEvent} {s t : State}
    (h : handleEvents es s = .next t) (fs : List HostEvent) :
    handleEvents (es ++ fs) s = handleEvents fs t := by
  induction es generalizing s with
  | nil => cases h; rfl
  | cons e es ih =>
    obtain ⟨u, hu⟩ := handleEvent_next e s
    simp only [List.cons_append, handleEvents, hu] at h ⊢
    exact ih h

/-- A set that fits: one entry for each merged range, V cleared in the rest
(44_filterpipeline.md R254). -/
theorem camWrites_eq_some {n : Nat} {ranges : List (Nat × Nat)} {es : List HostEvent}
    (h : camWrites n ranges = some es) :
    ranges.length ≤ n ∧ ∀ e, e ∈ es ↔ ∃ k : Fin 64, k.val < n ∧
      ((∃ r, ranges[k.val]? = some r ∧
          e ∈ excl k (BitVec.ofNat 32 r.1) (BitVec.ofNat 32 r.2)) ∨
        (ranges[k.val]? = none ∧ e = wr (.ectl k) 0#32)) := by
  unfold camWrites at h
  split_ifs at h with hl
  cases h
  refine ⟨hl, fun e => ?_⟩
  rw [List.mem_flatMap]
  refine exists_congr fun k => ?_
  by_cases hk : k.val < n <;> cases hr : ranges[k.val]? <;> simp [hk]

/-- The parts of a configuration: the end of an open pass, then the writes of
44_filterpipeline.md R255. -/
theorem configure_eq_some {h : HostSettings} {s : State} {es : List HostEvent}
    (he : h.configure s = some es) :
    ∃ cam, camWrites s.config.nExcl (exclusionRanges h.dropPackets) = some cam ∧
      es = (if s.passActive then endPassLine else []) ++ ([wr .ctrl h.ctrlWord] ++
        (h.maxJumpMs.map fun m => wr .maxJump (u32 (clampS32 m))).toList ++
        (List.finRange 18).flatMap h.boundWrites ++ cam) := by
  unfold HostSettings.configure HostSettings.configWrites at he
  obtain ⟨writes, hw, rfl⟩ := Option.map_eq_some_iff.mp he
  obtain ⟨cam, hc, rfl⟩ := Option.map_eq_some_iff.mp hw
  exact ⟨cam, hc, rfl⟩

end Sys2Proof.Machine
end

