-- ==== Sys2Proof/Laws/PerInstr.lean ====
section
/-! SUPPORT. Statements made per command: the family RoundTrip, decoding undoes encoding
(30_encoding.md R110 to R112). -/

namespace Sys2Proof.Laws.RoundTrip

/-- Decoding the word of a well-formed command gives it back. -/
def Statement (i : Instr) : Prop := i.WellFormed → decode (encode i) = .ok i

/-- The decoder reads the operand byte of a word built from it. -/
theorem aField_word (a op : BitVec 8) : aField (0#16 ++ a ++ op) = a := by
  unfold aField
  ext k hk
  simp only [BitVec.getElem_extractLsb', BitVec.getLsbD_append]
  rw [if_neg (by omega), if_pos (by omega), show 8 + k - 8 = k by omega]
  exact BitVec.getLsbD_eq_getElem hk

theorem opField_word (a op : BitVec 8) : opField (0#16 ++ a ++ op) = op := by
  unfold opField
  ext k hk
  simp only [BitVec.getElem_extractLsb', BitVec.getLsbD_append]
  rw [if_pos (by omega), Nat.zero_add]
  exact BitVec.getLsbD_eq_getElem hk

theorem rsvField_word (a op : BitVec 8) : rsvField (0#16 ++ a ++ op) = 0#16 := by
  unfold rsvField
  ext k hk
  simp only [BitVec.getElem_extractLsb', BitVec.getLsbD_append]
  rw [if_neg (by omega), if_neg (by omega)]
  simp

theorem nop : Statement .nop := fun _ => rfl

theorem curReset : Statement .curReset := fun _ => rfl

theorem curRead (n : Nat) : Statement (.curRead n) := by
  intro h
  have hn : n < 256 := of_decide_eq_true h
  simp only [decode, encode, opField_word, rsvField_word, aField_word, Instr.operand, Instr.opcode]
  simp [Opcode.code, Opcode.ofByte, Opcode.takesOperand, Opcode.command, Nat.mod_eq_of_lt hn]

theorem sext (bits : Nat) : Statement (.sext bits) := by
  intro h
  have hn : bits < 256 := of_decide_eq_true h
  simp only [decode, encode, opField_word, rsvField_word, aField_word, Instr.operand, Instr.opcode]
  simp [Opcode.code, Opcode.ofByte, Opcode.takesOperand, Opcode.command, Nat.mod_eq_of_lt hn]

theorem decode : Statement .decode := fun _ => rfl

theorem decodePush : Statement .decodePush := fun _ => rfl

theorem filterBegin : Statement .filterBegin := fun _ => rfl

theorem filterPush : Statement .filterPush := fun _ => rfl

theorem filterEnd : Statement .filterEnd := fun _ => rfl

theorem softReset : Statement .softReset := fun _ => rfl

end Sys2Proof.Laws.RoundTrip
end

