-- ==== Sys2Proof/Tests/Slice0.lean ====
section
/-! SUPPORT. The model's own tests: well-formedness, decoding from words written out by hand, one
step of each command against the values of 95_test_vectors.md, and a witness for the hypotheses of
each statement. -/

namespace Sys2Proof.Tests

open Sys2Proof Sys2Proof.Machine

/-! ### Helpers -/

/-- The reset state with a record buffer of zeros. -/
def base : State := State.resetWith Config.recommended (Vector.replicate 42 0#8)

/-- Record S1 (95_test_vectors.md section 0). -/
def recordS1 : Vector Byte 42 := #v[
  0xE8#8, 0x03#8, 0x00#8, 0x2E#8, 0x7B#8, 0xF3#8, 0x62#8, 0x54#8, 0x44#8, 0xCD#8, 0x7C#8,
  0xD0#8, 0x70#8, 0xFD#8, 0x07#8, 0x64#8, 0x00#8, 0x38#8, 0xFF#8, 0x2C#8, 0x01#8, 0x00#8,
  0x00#8, 0xFF#8, 0xFF#8, 0x00#8, 0x40#8, 0x00#8, 0x80#8, 0xFF#8, 0x7F#8, 0x05#8, 0x00#8,
  0x81#8, 0x01#8, 0x00#8, 0x02#8, 0x00#8, 0xFF#8, 0xFF#8, 0xE8#8, 0x03#8]

/-- S1 decoded (95_test_vectors.md section 0). -/
def packetS1 : Vector Word 20 := #v[
  0x000003E8#32, 0xFFFFFB2E#32, 0x00018BCD#32, 0x1F335115#32, 0x07FD70D0#32, 0#32,
  0x00000064#32, 0xFFFFFF38#32, 0x0000012C#32, 0#32, 0xFFFFFFFF#32, 0x00004000#32,
  0xFFFF8000#32, 0x00007FFF#32, 5#32, 0x81#32, 1#32, 2#32, 0x0000FFFF#32, 0x000003E8#32]

/-- S1 loaded. -/
def loaded : State := { base with rbuf := recordS1, rlen := 42#8 }

/-- A pass has begun and S1 is loaded. -/
def inPass : State := { loaded with passActive := true }

/-- A packet with time 100 is held, unpushed, second of its pass, after one with time 16777200. -/
def backward : State :=
  { base with
    pkt := decodedFields ((Vector.replicate 42 0#8).set 0 100#8), pktValid := true
    passActive := true, prevValid := true, prevTime := 16777200#24, seqIdx := 1#32
    accCount := 1#32, verdict := .accept, ctrl := 0x01#5 }

/-- The bytes B4 5A C3 under a fresh cursor (95_test_vectors.md V-CR). -/
def threeBytes : State :=
  { base with
    rbuf := ((Vector.replicate 42 0#8).set 0 0xB4#8 |>.set 1 0x5A#8 |>.set 2 0xC3#8)
    rlen := 3#8, curLen := 3 }

/-- The state with these events pending. -/
def withEvents (s : State) (es : List HostEvent) : State := { s with bus := ⟨es, none⟩ }

/-- The outcome is a next state with this property. -/
def leads (o : Host.Outcome State Fault Refusal) (p : State → Bool) : Bool :=
  match o with
  | .next t => p t
  | .fault _ => false
  | .refused _ => false

/-! ### Well-formedness and encoding -/

theorem test_curRead_operand_is_a_byte : (Instr.curRead 256).wellFormed = false := by decide

theorem test_sext_operand_is_a_byte : (Instr.sext 256).wellFormed = false := by decide

theorem test_every_byte_is_an_operand :
    (Instr.curRead 255).wellFormed = true ∧ (Instr.sext 255).wellFormed = true := by decide

/-- RSV, then A, then OP of each word written out from 30_encoding.md R110 and R112. -/
theorem test_decode_nop : decode 0b00000000000000000000000000000000#32 = .ok .nop := by decide

theorem test_decode_curReset :
    decode 0b00000000000000000000000000000001#32 = .ok .curReset := by decide

theorem test_decode_curRead_24 :
    decode 0b00000000000000000001100000000010#32 = .ok (.curRead 24) := by decide

theorem test_decode_sext_14 :
    decode 0b00000000000000000000111000000011#32 = .ok (.sext 14) := by decide

theorem test_decode_decode :
    decode 0b00000000000000000000000000010000#32 = .ok .decode := by decide

theorem test_decode_decodePush :
    decode 0b00000000000000000000000000010001#32 = .ok .decodePush := by decide

theorem test_decode_filterBegin :
    decode 0b00000000000000000000000000100000#32 = .ok .filterBegin := by decide

theorem test_decode_filterPush :
    decode 0b00000000000000000000000000100001#32 = .ok .filterPush := by decide

theorem test_decode_filterEnd :
    decode 0b00000000000000000000000000100010#32 = .ok .filterEnd := by decide

theorem test_decode_softReset :
    decode 0b00000000000000000000000011111111#32 = .ok .softReset := by decide

/-- Illegal words (95_test_vectors.md V-CTL). -/
theorem test_decode_rejects :
    decode 0x00000005#32 = .error .unknownOpcode ∧
      decode 0x00010001#32 = .error .reservedNotZero ∧
      decode 0x00000110#32 = .error .operandNotAllowed ∧
      decode 0x000001FF#32 = .error .operandNotAllowed := by decide

/-- The words of program P1 (95_test_vectors.md section 3). -/
theorem test_encode :
    encode (.curRead 14) = 0x00000E02#32 ∧ encode (.curRead 33) = 0x00002102#32 ∧
      encode (.sext 14) = 0x00000E03#32 := by decide

theorem test_decodeTableWord :
    decodeTableWord 32 0x00000302 = some (.curRead 3) ∧ decodeTableWord 8 0x11 = some .decodePush ∧
      decodeTableWord 32 0x05 = none := by decide

/-- The command word placed by withFetchWord is what the next step runs. -/
theorem test_withFetchWord :
    leads (step (State.reset.withFetchWord 32 0x00000021)) (fun t => t.result == .noPass) = true :=
  by decide

/-- The record table (30_encoding.md R100): first bits and widths. -/
theorem test_layout :
    (List.range 20).map firstBit = [0, 24, 38, 58, 88, 118, 120, 136, 152, 168, 184, 200, 216, 232,
      248, 264, 272, 288, 304, 320] ∧
    (layout.toList.map (·.width)) = [24, 14, 20, 30, 30, 2, 16, 16, 16, 16, 16, 16, 16, 16, 16, 8,
      16, 16, 16, 16] := by decide

/-! ### One step of each command (values of 95_test_vectors.md) -/

theorem test_nop :
    leads (exec .nop { base with result := .outOfRange, err := 0x004#10 })
      (fun t => t.result == .ok && t.err == 0x004#10) = true := by decide

theorem test_curReset_42 :
    leads (exec .curReset { threeBytes with rlen := 42#8 })
      (fun t => t.curLen == 42 && t.curLeft == 336) = true := by decide

theorem test_curReset_43 :
    leads (exec .curReset { threeBytes with rlen := 43#8 })
      (fun t => t.result == .operandRange && t.curLen == 3 && t.err == 0x002#10) = true := by decide

theorem test_curRead_crosses_a_byte :
    leads (exec (.curRead 7) { threeBytes with curPos := 3 })
      (fun t => t.curData == 0x56#32 && t.curPos == 10) = true := by decide

theorem test_curRead_past_the_end :
    leads (exec (.curRead 15) { threeBytes with curPos := 10, curData := 9#32 })
      (fun t => t.result == .outOfRange && t.curPos == 10 && t.curData == 9#32) = true := by decide

theorem test_sext_14 :
    leads (exec (.sext 14) { base with sxIn := 0x3B2E#32 })
      (fun t => t.sxOut == 0xFFFFFB2E#32) = true := by decide

theorem test_sext_bit_above_the_width :
    leads (exec (.sext 14) { base with sxIn := 0x4000#32, sxOut := 7#32 })
      (fun t => t.result == .operandRange && t.sxOut == 7#32) = true := by decide

theorem test_decode_S1 :
    leads (exec .decode loaded) (fun t => t.pkt == packetS1 && t.readReg .status == 0x1001#32 &&
      t.curPos == 336 && t.decOk == 1#32) = true := by decide

theorem test_decode_reports_all_four_checks :
    leads (exec .decode { loaded with
        vlimPress := 0#32, vlimLat := 0#32, vlimLon := 0#32, vlimTemp := 0#32 })
      (fun t => t.readReg .status == 0x1078#32 && t.err == 0x010#10 && t.decFail == 1#32) = true :=
  by decide

/-- Program P3, its first push. -/
theorem test_decodePush_first :
    leads (exec .decodePush { inPass with ctrl := 0x11#5, maxJump := 2000#32 })
      (fun t => t.readReg .status == 0x383#32 && t.prevTime == 1000#24) = true := by decide

/-- Program P5, its second push: implausible, the verdict of the first one kept. -/
theorem test_decodePush_implausible :
    leads (exec .decodePush { inPass with
        rbuf := recordS1.set 4 0xFB#8 |>.set 5 0xFF#8 |>.set 6 0xFF#8 |>.set 7 0x57#8
        vlimPress := 0xFFFFF#32, seqIdx := 1#32, accCount := 1#32, verdict := .accept })
      (fun t => t.readReg .status == 0x288#32 && t.seqIdx == 1#32) = true := by decide

theorem test_filterBegin :
    leads (exec .filterBegin { inPass with seqIdx := 5#32, accCount := 5#32, verdict := .accept })
      (fun t => t.readReg .status == 0x1080#32 && t.seqIdx == 0#32) = true := by decide

/-- V-PIPE row 1: no wrap, a backward step. -/
theorem test_filterPush_backward :
    leads (exec .filterPush backward)
      (fun t => t.verdict == .dropTime && t.lastDelta == 0xFF000074#32 &&
        t.prevTime == 16777200#24 && t.dropTime == 1#32) = true := by decide

/-- W6 row 2: the same pair with wrap allowed. -/
theorem test_filterPush_wrap :
    leads (exec .filterPush { backward with ctrl := 0x19#5, maxJump := 2000#32 })
      (fun t => t.verdict == .accept && t.lastDelta == 116#32 && t.prevTime == 100#24) = true := by
  decide

theorem test_filterEnd :
    leads (exec .filterEnd backward)
      (fun t => t.readReg .status == 0x301#32 && t.seqIdx == 1#32) = true := by decide

theorem test_softReset :
    leads (exec .softReset { inPass with err := 0x3FF#10, ctrl := 0x1F#5 })
      (fun t => t.readReg (.rbuf 0) == 0x2E0003E8#32 && t.readReg .status == 0x1000#32 &&
        t.err == 0#10 && t.rlen == 0#8) = true := by decide

/-! ### Bus accesses (95_test_vectors.md V-CTL, V-PUSH) -/

theorem test_write_err_clears_ones :
    leads (handleEvent (wr .err 0x101#32) { base with err := 0x3FF#10 })
      (fun t => t.err == 0x2FE#10) = true := by decide

theorem test_write_locked :
    leads (handleEvent (wr .ctrl 0x1F#32) inPass)
      (fun t => t.ctrl == 0#5 && t.err == 0x100#10) = true := by decide

theorem test_unmapped_and_misaligned_reads :
    leads (handleEvent (.read 0x084#12 32) base) (fun t => t.err == 0x200#10 &&
        t.bus.response == some ⟨some 0#32, true⟩) = true ∧
      leads (handleEvent (.read 0x002#12 32) base) (fun t => t.err == 0x200#10) = true := by decide

theorem test_cam_entry_past_N_EXCL_is_unmapped :
    leads (handleEvent (.write 0x500#12 32 1#32) base) (fun t => t.err == 0x200#10) = true ∧
      leads (handleEvent (.write 0x4F0#12 32 1#32) base) (fun t => t.cam[15].ctl == 1#1) = true := by
  decide

/-! ### Host conversions (95_test_vectors.md V-HOST) -/

theorem test_drop_list :
    exclusionRanges "2,5-7".toList = [(2, 2), (5, 7)] ∧
      exclusionRanges " 3 , ,4-4".toList = [(3, 4)] ∧
      exclusionRanges "-3,1-2-3,+4,2".toList = [(2, 2)] := by decide

theorem test_drop_list_warnings :
    dropWarnings "-3,1-2-3,+4,2".toList = ["-3".toList, "1-2-3".toList, "+4".toList] := by decide

theorem test_float_bounds :
    minBoundOf (some (.finite (mkRat 119999 2))) = some 60000 ∧
      maxBoundOf (some (.finite (mkRat (-1) 2))) = some (-1) ∧
      minBoundOf (some .posInf) = some 0x7FFFFFFF ∧ minBoundOf (some .nan) = none := by decide

/-- A jump limit, two channel bounds and an exclusion set (44_filterpipeline.md R255). -/
def settings : HostSettings where
  maxJumpMs := some 1000
  allowWrap := none
  chanMin := (Vector.replicate 18 none).set 2 (some (.finite (mkRat 119999 2)))
  chanMax := (Vector.replicate 18 none).set 17 (some (.finite 5))
  dropPackets := "2,5-7".toList

/-- The CTRL word of R255, written after FILTER_END in an open pass and at once outside one
(43_batchdecoder.md R213, 70_reset_and_hazards.md R344). -/
theorem test_configure_ends_an_open_pass :
    (settings.configure inPass).map (·.take 2) = some [issue .filterEnd, wr .ctrl 0x17#32] ∧
      (settings.configure base).map (·.take 1) = some [wr .ctrl 0x17#32] := by decide

/-- Two ranges do not fit one entry: a configuration error (44_filterpipeline.md R254). -/
theorem test_configure_needs_entries :
    settings.configure { inPass with config := ⟨1, false⟩ } = none := by decide

/-! ### Witnesses: states and operands that meet the hypotheses of each statement, one for each
clause, at the boundary where clauses meet -/

/-- The registers the reset statements speak of. -/
theorem test_witness_registers_but_rbuf : ∀ w, Reg.ehi 63 ≠ .rbuf w ∧ Reg.id ≠ .rbuf w := by decide

theorem test_witness_HardwareReset :
    (withEvents inPass [.hardReset, rd .id]).bus.pending = .hardReset :: [rd .id] := rfl

theorem test_witness_DecodeUndoesEncode :
    (Instr.curRead 255).WellFormed ∧ (Instr.sext 0).WellFormed ∧ Instr.softReset.WellFormed := by
  decide

theorem test_witness_EveryCommandHasOneWord : decode 0x0000FF02#32 = .ok (.curRead 255) := by decide

/-- One illegal word for each reason, and for A ≠ 0 the two commands that allow it. -/
theorem test_witness_IllegalWords :
    decode 0x00000004#32 = .error .unknownOpcode ∧ decode 0x00010002#32 = .error .reservedNotZero ∧
      decode 0x00000101#32 = .error .operandNotAllowed ∧
      decode 0x00000102#32 = .ok (.curRead 1) ∧ decode 0x00000103#32 = .ok (.sext 1) := by decide

theorem test_witness_CurReset :
    42 < ({ loaded with rlen := 43#8 } : State).rlen.toNat ∧ loaded.rlen.toNat ≤ 42 := by decide

/-- n = 33; n = 25 with 24 bits left; n = 24 with 24 bits left. -/
theorem test_witness_CurRead :
    32 < 33 ∧ (25 ≤ 32 ∧ 8 * threeBytes.curLen.val < threeBytes.curPos.val + 25) ∧
      (24 ≤ 32 ∧ threeBytes.curPos.val + 24 ≤ 8 * threeBytes.curLen.val) := by decide

theorem test_witness_SplitReads :
    10 + 14 ≤ 32 ∧ threeBytes.curPos.val + (10 + 14) ≤ 8 * threeBytes.curLen.val := by decide

theorem test_witness_OnlyCursorCommands :
    leads (step (withEvents threeBytes [issue (.curRead 7)]))
      (fun t => decide (t.curPos ≠ threeBytes.curPos)) = true := by decide

/-- b = 0, b = 33, a value of one bit too many, and the largest and smallest legal widths. -/
theorem test_witness_Sext :
    (33 = 0 ∨ 32 < 33 ∨ 2 ^ 33 ≤ base.sxIn.toNat) ∧
      2 ^ 14 ≤ ({ base with sxIn := 0x4000#32 } : State).sxIn.toNat ∧
      ({ base with sxIn := 0x3FFF#32 } : State).sxIn.toNat < 2 ^ 14 ∧
      ({ base with sxIn := 1#32 } : State).sxIn.toNat < 2 ^ 1 ∧
      ({ base with sxIn := 0xFFFFFFFF#32 } : State).sxIn.toNat < 2 ^ 32 := by decide

/-- The four values of each clause at b = 14, and at b = 1, where two pairs of them coincide and
the clauses give the same result. -/
theorem test_witness_SextLaws :
    ({ base with sxIn := 0x2000#32 } : State).sxIn.toNat = 2 ^ (14 - 1) ∧
      ({ base with sxIn := 0x3FFF#32 } : State).sxIn.toNat = 2 ^ 14 - 1 ∧
      ({ base with sxIn := 0x1FFF#32 } : State).sxIn.toNat = 2 ^ (14 - 1) - 1 ∧
      base.sxIn.toNat = 0 ∧ 2 ^ (1 - 1) = 2 ^ 1 - 1 ∧ (-2 ^ (1 - 1) : Int) = -1 ∧
      2 ^ (1 - 1) - 1 = 0 := by decide

/-- RLEN 41 and 43; S1 at VLIM_TEMP 1233 and at 1234. -/
theorem test_witness_Decode :
    (41#8 ≠ 42#8 ∧ 43#8 ≠ 42#8 ∧ loaded.rlen = 42#8) ∧
      Terms.whyOf { loaded with vlimTemp := 1233#32 } (decodedFields recordS1) ≠ 0#4 ∧
      Terms.whyOf { loaded with vlimTemp := 1234#32 } (decodedFields recordS1) = 0#4 := by decide

/-- The reset limits, and the least wide ones. -/
theorem test_witness_WideLimits :
    (loaded.vlimPress = 0x00100000#32 ∧ loaded.vlimLat = 900000000#32 ∧
        loaded.vlimLon = 1800000000#32 ∧ loaded.vlimTemp = 100000#32) ∧
      2 ^ 20 ≤ (0x00100000#32).toNat ∧ 8192 ≤ (8192#32).toNat ∧ 2 ^ 29 ≤ (0x20000000#32).toNat := by
  decide

theorem test_witness_DecodeOutcome :
    loaded ≠ inPass ∧ loaded.rbuf = inPass.rbuf ∧ loaded.rlen = inPass.rlen ∧
      loaded.vlimPress = inPass.vlimPress ∧ loaded.vlimLat = inPass.vlimLat ∧
      loaded.vlimLon = inPass.vlimLon ∧ loaded.vlimTemp = inPass.vlimTemp ∧
      leads (exec .decode loaded) (fun t => t.result != .wrongLength) = true := by decide

theorem test_witness_OnlyDecodes :
    leads (step (withEvents loaded [issue .decode])) (fun t => t.pkt != loaded.pkt) = true := by
  decide

/-- Each case of DECODE_PUSH and of FILTER_PUSH, the last two at SEQ_IDX = 2^32 − 1 and − 2. -/
theorem test_witness_pushes :
    base.passActive = false ∧ inPass.passActive = true ∧ inPass.pktValid = false ∧
      ({ backward with pktPushed := true } : State).pktPushed = true ∧
      backward.passActive = true ∧ backward.pktValid = true ∧ backward.pktPushed = false ∧
      backward.seqIdx ≠ 0xFFFFFFFF#32 ∧ 0xFFFFFFFE#32 ≠ 0xFFFFFFFF#32 ∧
      ({ backward with seqIdx := 0xFFFFFFFF#32 } : State).seqIdx = 0xFFFFFFFF#32 := by decide

theorem test_witness_DecodePush_then :
    leads (exec .decode inPass) (fun t => t.result == .ok) = true ∧
      leads (exec .decode { inPass with rlen := 0#8 }) (fun t => t.result != .ok) = true := by decide

theorem test_witness_DecodePushPushes :
    inPass.passActive = true ∧ inPass.seqIdx ≠ 0xFFFFFFFF#32 ∧ inPass.rlen = 42#8 ∧
      Terms.whyOf inPass (decodedFields inPass.rbuf) = 0#4 := by decide

/-- A push with a comparison and one without, and each kind of drop. -/
theorem test_witness_Pushed :
    Terms.Compares backward (-16777100) ∧ Terms.TimeDrops backward ∧
      Terms.RangeDrops { backward with
        ctrl := 0x02#5, chan := backward.chan.set 0 ⟨2#2, 0#32, 99#32⟩ } ∧
      Terms.ManualDrops { backward with
        ctrl := 0x04#5, cam := backward.cam.set 15 ⟨1#1, 1#32, 1#32⟩ } ∧
      ∀ d, ¬ Terms.Compares { backward with ctrl := 0x00#5 } d := by
  refine ⟨⟨rfl, rfl, .inl ⟨.inr rfl, by decide⟩⟩, ⟨-16777100,
    ⟨rfl, rfl, .inl ⟨.inr rfl, by decide⟩⟩, .inr (by decide)⟩, ⟨rfl, 0, by decide⟩,
    ⟨rfl, 15, by decide⟩, fun d h => Bool.noConfusion h.1⟩

/-- Each clause's condition: no baseline, wrap allowed without a limit, a repeated time with the
limit off and with it 0, and the stage off. -/
theorem test_witness_TimeStage :
    (({ backward with prevValid := false } : State).prevValid = false) ∧
      (({ backward with ctrl := 0x09#5 } : State).ctrl[3] = true ∧
        ({ backward with ctrl := 0x09#5 } : State).ctrl[4] = false) ∧
      (({ backward with prevTime := 100#24 } : State).pkt[0].toNat =
          ({ backward with prevTime := 100#24 } : State).prevTime.toNat ∧ backward.ctrl[4] = false) ∧
      0 ≤ ({ backward with maxJump := 0#32 } : State).maxJump.toInt ∧
      ({ backward with ctrl := 0x02#5 } : State).ctrl[0] = false := by decide

/-- A reachable state of a pass, with every invariant. -/
theorem test_witness_Inv : backward.Inv where
  legal := by decide
  cursor := by decide
  fields := decodedFields_inRange _
  counts := by decide
  plausible := by decide
  pushed := by decide
  dummy := by decide
  noPush := by decide
  baseline := by decide
  noBaseline := by decide
  camEnd := by decide

theorem test_witness_TimeDifference :
    backward.passActive = true ∧ backward.pktValid = true ∧ backward.pktPushed = false ∧
      backward.seqIdx ≠ 0xFFFFFFFF#32 ∧ exec .filterPush backward = .next backward.pushBody.succeed ∧
      ({ backward with ctrl := 0x09#5 } : State).ctrl[3] = true := by
  refine ⟨rfl, rfl, rfl, by decide, rfl, by decide⟩

/-- Two states that agree on what a verdict depends on and differ elsewhere. -/
theorem test_witness_VerdictDepends :
    let t : State := { backward with rlen := 7#8, accCount := 0#32, dropTime := 1#32 }
    backward ≠ t ∧ backward.pkt = t.pkt ∧ backward.seqIdx = t.seqIdx ∧
      backward.filterState = t.filterState ∧ backward.config = t.config ∧
      backward.prevValid = t.prevValid ∧ backward.prevTime = t.prevTime ∧ t.passActive = true ∧
      t.pktValid = true ∧ t.pktPushed = false := by decide

theorem test_witness_BaselinePolicy :
    leads (exec .filterPush backward) (fun t => t.result == .ok && t.verdict != .dropRange &&
      t.verdict != .dropManual) = true := by decide

theorem test_witness_ConfigurationIsFixed :
    leads (step (withEvents inPass [wr .ctrl 0x1F#32])) (fun t => t.passActive) = true ∧
      inPass.passActive = true := by decide

theorem test_witness_OnlyPassCommands :
    leads (step (withEvents backward [issue .filterPush]))
      (fun t => t.seqIdx != backward.seqIdx) = true := by decide

theorem test_witness_EveryResultCode :
    decode 0x000000FF#32 = .ok .softReset ∧ decode 0x00000001#32 ≠ .ok .softReset := by decide

theorem test_witness_StepRuns :
    (withEvents base [issue (.sext 14)]).bus.pending = .write 0x008#12 32 0x00000E03#32 :: [] ∧
      decode 0x00000E03#32 = .ok (.sext 14) ∧
      (withEvents base [commandWrite 0x00000005#32]).bus.pending =
        .write 0x008#12 32 0x00000005#32 :: [] ∧
      decode 0x00000005#32 = .error .unknownOpcode := by decide

theorem test_witness_EveryStep :
    base.bus.pending = [] ∧ (withEvents base [rd .err]).bus.pending = rd .err :: [] := ⟨rfl, rfl⟩

theorem test_witness_EveryStepKeeps :
    backward.Inv ∧ step backward = .next backward := ⟨test_witness_Inv, rfl⟩

theorem test_witness_ErrBits :
    ({ base with err := 0x3FF#10 } : State).err[(8 : Fin 10)] = true ∧
      leads (step (withEvents { base with err := 0x3FF#10 } [wr .err 0x100#32]))
        (fun t => t.err[8] == false) = true := by decide

theorem test_witness_Reads :
    Terms.Exists base.config (.ehi 15) ∧ (withEvents base [rd (.ehi 15)]).bus.pending =
      .read (BitVec.ofNat 12 (Reg.ehi 15).offset) 32 :: [] := ⟨show 15 < 16 by decide, rfl⟩

/-- A narrow access, a misaligned one, a hole of the map, and the first CAM entry past N_EXCL. -/
theorem test_witness_IllegalAccesses :
    16 ≠ 32 ∧ (0x102#12).toNat % 4 ≠ 0 ∧
      (∀ r, Terms.Exists base.config r → (0x03C#12).toNat ≠ r.offset) ∧
      (∀ r, Terms.Exists base.config r → (0x500#12).toNat ≠ r.offset) ∧
      (withEvents base [.read 0x03C#12 32]).bus.pending = .read 0x03C#12 32 :: [] ∧
      (withEvents base [.write 0x500#12 32 1#32]).bus.pending = .write 0x500#12 32 1#32 :: [] := by
  refine ⟨by decide, by decide, ?_, ?_, rfl, rfl⟩
  · intro r _
    cases r <;> simp [Reg.offset]
    all_goals omega
  · intro r h
    cases r <;> simp [Reg.offset]
    all_goals simp [Terms.Exists, base, State.resetWith, Config.recommended] at h
    all_goals omega

/-- A register of class RW in a pass, and one of class LK outside a pass. -/
theorem test_witness_Writes :
    Terms.Exists inPass.config (.rbuf 10) ∧ (Reg.rbuf 10).accessClass = .rw ∧
      Terms.Exists base.config (.elo 15) ∧ (Reg.elo 15).accessClass = .lk ∧
      base.passActive = false ∧ (withEvents base [wr (.elo 15) 7#32]).bus.pending =
        .write (BitVec.ofNat 12 (Reg.elo 15).offset) 32 7#32 :: [] := by
  refine ⟨trivial, rfl, show 15 < 16 by decide, rfl, rfl, rfl⟩

theorem test_witness_Locked :
    Reg.ctrl.accessClass = .lk ∧ inPass.passActive = true ∧ Reg.sxOut.accessClass = .ro ∧
      (withEvents inPass [wr .ctrl 0#32]).bus.pending =
        .write (BitVec.ofNat 12 Reg.ctrl.offset) 32 0#32 :: [] ∧
      (withEvents inPass [wr .err 1#32]).bus.pending =
        .write (BitVec.ofNat 12 Reg.err.offset) 32 1#32 :: [] := by
  refine ⟨rfl, rfl, rfl, rfl, rfl⟩

theorem test_witness_RbufWordWrites :
    (withEvents base [wr (.rbuf 10) 0xAABBCCDD#32]).bus.pending =
      .write (BitVec.ofNat 12 (0x100 + 4 * (10 : Fin 11).val)) 32 0xAABBCCDD#32 :: [] := rfl

theorem test_witness_FiniteBound : |(2 ^ 30 - 1 : Int)| < 2 ^ 30 := by decide

/-- CUR_LEFT at the end of the buffer, in a state with every invariant. -/
theorem test_witness_RegistersRead :
    ({ base with curLen := 42, curPos := 336 } : State).readReg .curLeft = 0#32 ∧
      threeBytes.readReg .curLeft = 24#32 ∧ backward.Inv := ⟨by decide, by decide, test_witness_Inv⟩

/-- The write of each RW register, here in a pass. -/
theorem test_witness_RwWrites :
    Terms.NextWrite (withEvents inPass [wr .rlen 0x12A#32]) 0x020 0x12A#32 [] ∧
      Terms.NextWrite (withEvents inPass [wr .sxIn 1#32]) 0x034 1#32 [] ∧
      Terms.NextWrite (withEvents inPass [wr .vlimPress 1#32]) 0x040 1#32 [] ∧
      Terms.NextWrite (withEvents inPass [wr .vlimLat 1#32]) 0x044 1#32 [] ∧
      Terms.NextWrite (withEvents inPass [wr .vlimLon 1#32]) 0x048 1#32 [] ∧
      Terms.NextWrite (withEvents inPass [wr .vlimTemp 1#32]) 0x04C 1#32 [] :=
  ⟨rfl, rfl, rfl, rfl, rfl, rfl⟩

/-- The write of each locked register outside a pass, of the last channel and the last entry. -/
theorem test_witness_LockedRegisterWrites :
    (withEvents base [wr .ctrl 0x3F#32]).passActive = false ∧
      (15 : Fin 64).val < (withEvents base []).config.nExcl ∧
      Terms.NextWrite (withEvents base [wr .ctrl 0x3F#32]) 0x018 0x3F#32 [] ∧
      Terms.NextWrite (withEvents base [wr .maxJump 1#32]) 0x01C 1#32 [] ∧
      Terms.NextWrite (withEvents base [wr (.rctl 17) 7#32]) (0x200 + 16 * 17) 7#32 [] ∧
      Terms.NextWrite (withEvents base [wr (.rmin 17) 1#32]) (0x204 + 16 * 17) 1#32 [] ∧
      Terms.NextWrite (withEvents base [wr (.rmax 17) 1#32]) (0x208 + 16 * 17) 1#32 [] ∧
      Terms.NextWrite (withEvents base [wr (.ectl 15) 3#32]) (0x400 + 16 * 15) 3#32 [] ∧
      Terms.NextWrite (withEvents base [wr (.elo 15) 1#32]) (0x404 + 16 * 15) 1#32 [] ∧
      Terms.NextWrite (withEvents base [wr (.ehi 15) 1#32]) (0x408 + 16 * 15) 1#32 [] :=
  ⟨rfl, by decide, rfl, rfl, rfl, rfl, rfl, rfl, rfl, rfl⟩

/-- In a pass and outside one, a supplied value for each conditional clause. -/
theorem test_witness_Configuration :
    inPass.config.Legal ∧ (settings.configure inPass).isSome = true ∧
      (settings.configure base).isSome = true ∧ settings.maxJumpMs = some 1000 ∧
      minBoundOf settings.chanMin[(2 : Fin 18)] = some 60000 ∧
      maxBoundOf settings.chanMax[(17 : Fin 18)] = some 5 := by decide

theorem test_witness_RunEndsAnOpenPass :
    inPass.passActive = true ∧ recordS1.toList ≠ [] ∧ recordS1.toList.length % 42 = 0 ∧
      (settings.configWrites inPass.config).isSome = true ∧
      handleEvents [issue .filterEnd] inPass = .next
        { inPass with passActive := false, bus := ⟨[], some ⟨none, false⟩⟩ } :=
  ⟨rfl, by decide, rfl, by decide, rfl⟩

end Sys2Proof.Tests
end

section
/-! SUPPORT. The register map read forwards: where each register that exists is, and that an access
there reaches it (10_state.md section 2). -/

namespace Sys2Proof.Machine

variable (config : Config)

theorem regAt_rbuf (w : Fin 11) : regAt config (0x100 + 4 * w.val) = some (.rbuf w) := by
  have hw := w.isLt
  have hi : (0x100 + 4 * w.val - 0x100) / 4 = w.val := by omega
  rw [regAt, if_neg (by omega), dif_pos (by omega), if_pos (by omega)]
  simp only [hi]

theorem regAt_pkt (j : Fin 20) : regAt config (0x140 + 4 * j.val) = some (.pkt j) := by
  have hj := j.isLt
  have hi : (0x140 + 4 * j.val - 0x140) / 4 = j.val := by omega
  rw [regAt, if_neg (by omega), dif_neg (by omega), dif_pos (by omega), if_pos (by omega)]
  simp only [hi]

/-- The 16-byte group of channel c (10_state.md R51). -/
theorem regAt_chan (c : Fin 18) {slot : Nat} (hs : slot < 16) :
    regAt config (0x200 + slot + 16 * c.val) =
      groupRegAt (.rctl c) (.rmin c) (.rmax c) slot := by
  have hc := c.isLt
  have hi : (0x200 + slot + 16 * c.val - 0x200) / 16 = c.val := by omega
  have hm : (0x200 + slot + 16 * c.val) % 16 = slot := by omega
  rw [regAt, if_neg (by omega), dif_neg (by omega), dif_neg (by omega), dif_pos (by omega)]
  simp only [hi, hm]

/-- The 16-byte group of CAM entry k, mapped only for `k < N_EXCL` (10_state.md R55). -/
theorem regAt_cam {k : Fin 64} (hk : k.val < config.nExcl) {slot : Nat} (hs : slot < 16) :
    regAt config (0x400 + slot + 16 * k.val) =
      groupRegAt (.ectl k) (.elo k) (.ehi k) slot := by
  have hlt := k.isLt
  have hi : (0x400 + slot + 16 * k.val - 0x400) / 16 = k.val := by omega
  have hm : (0x400 + slot + 16 * k.val) % 16 = slot := by omega
  rw [regAt, if_neg (by omega), dif_neg (by omega), dif_neg (by omega), dif_neg (by omega),
    dif_pos (by omega)]
  simp only [hi, hm, if_pos hk]

variable {config}

/-- A register that exists is mapped at its offset. -/
theorem regAt_of_exists {r : Reg} (h : Terms.Exists config r) :
    regAt config r.offset = some r := by
  cases r with
  | rbuf w => exact regAt_rbuf config w
  | pkt j => exact regAt_pkt config j
  | rctl c => exact regAt_chan config c (slot := 0) (by decide)
  | rmin c => exact regAt_chan config c (slot := 4) (by decide)
  | rmax c => exact regAt_chan config c (slot := 8) (by decide)
  | ectl k => exact regAt_cam config h (slot := 0) (by decide)
  | elo k => exact regAt_cam config h (slot := 4) (by decide)
  | ehi k => exact regAt_cam config h (slot := 8) (by decide)
  | _ => rfl

/-- Only a register that exists is mapped (10_state.md R55). -/
theorem exists_of_regAt {a : Nat} {r : Reg} (h : regAt config a = some r) :
    Terms.Exists config r := by
  have ha := regAt_offset h
  unfold regAt at h
  split_ifs at h
  · cases r with
    | ectl k => simp only [Reg.offset] at ha; omega
    | elo k => simp only [Reg.offset] at ha; omega
    | ehi k => simp only [Reg.offset] at ha; omega
    | _ => trivial
  · cases h; trivial
  · cases h; trivial
  · rcases groupRegAt_cases h with ⟨_, rfl⟩ | ⟨_, rfl⟩ | ⟨_, rfl⟩ <;> trivial
  · dsimp only at h
    split_ifs at h with hk
    rcases groupRegAt_cases h with ⟨_, rfl⟩ | ⟨_, rfl⟩ | ⟨_, rfl⟩ <;> exact hk

/-- Settles O40: a mapped offset is its register's own, and each register that exists is mapped. -/
theorem registerMapIsOneToOne : Obligations.RegisterMapIsOneToOne := by
  unfold Obligations.RegisterMapIsOneToOne
  intro config a r
  constructor
  · intro h
    exact ⟨regAt_offset h, exists_of_regAt h⟩
  · rintro ⟨rfl, h⟩
    exact regAt_of_exists h

theorem Reg.offset_lt_and_aligned (r : Reg) : r.offset < 2 ^ 12 ∧ r.offset % 4 = 0 := by
  cases r with
  | rbuf i | pkt i | rctl i | rmin i | rmax i | ectl i | elo i | ehi i =>
    have hi := i.isLt
    simp only [Reg.offset]
    omega
  | _ => decide

/-- A 32-bit access at the offset of a register that exists reaches it (20_memory.md R74, R75). -/
theorem target_of_exists {s : State} {r : Reg} (h : Terms.Exists s.config r) :
    s.target (BitVec.ofNat 12 r.offset) 32 = some r := by
  obtain ⟨hlt, hmod⟩ := r.offset_lt_and_aligned
  have ha : (BitVec.ofNat 12 r.offset).toNat = r.offset := by
    rw [BitVec.toNat_ofNat, Nat.mod_eq_of_lt hlt]
  rw [State.target, ha, if_pos ⟨rfl, hmod⟩]
  exact regAt_of_exists h

/-- A 32-bit host write at the offset of a register that exists is answered without error and acts
by the register's class (20_memory.md R75). -/
theorem step_write {s : State} {r : Reg} {v : Word} {rest : List HostEvent}
    (hr : Terms.Exists s.config r)
    (h : s.bus.pending = .write (BitVec.ofNat 12 r.offset) 32 v :: rest) :
    step s = writeByClass r v (Terms.answered s rest) := by
  have ht : (s.afterTaking rest).target (BitVec.ofNat 12 r.offset) 32 = some r :=
    target_of_exists hr
  simp only [step, nextEvent, h, handleEvent, memWrite, ht]
  rfl

end Sys2Proof.Machine
end

section
/-! SUPPORT. What the registers read: their fields, and their reset values (10_state.md section 2,
R62). -/

namespace Sys2Proof.Machine

/-! ### Fields -/

theorem toNat_append_eq {m n : Nat} (x : BitVec m) (y : BitVec n) :
    (x ++ y).toNat = x.toNat * 2 ^ n + y.toNat := by
  rw [BitVec.toNat_append, ← Nat.shiftLeft_add_eq_or_of_lt y.isLt, Nat.shiftLeft_eq]

/-- STATUS as a number: each flag times the weight of its bit (10_state.md R27 to R29). -/
theorem readReg_status_toNat (s : State) :
    (s.readReg .status).toNat = s.pktValid.toNat + 2 * s.pktPushed.toNat + 4 * s.diagDummy.toNat +
      8 * s.implWhy.toNat + 128 * s.passActive.toNat + 256 * s.prevValid.toNat +
      512 * Terms.verdictCode s.verdict + 4096 * s.empty.toNat := by
  have hv : s.verdict.code.toNat = Terms.verdictCode s.verdict := by cases s.verdict <;> rfl
  have hr : (s.readReg .status).toNat = s.statusBits.toNat :=
    BitVec.toNat_setWidth_of_le (by decide)
  simp only [hr, State.statusBits, toNat_append_eq, BitVec.toNat_ofBool, hv]
  omega

theorem verdictCode_le (v : Verdict) : Terms.verdictCode v ≤ 4 := by cases v <;> decide

/-- A bit of a word from the word as a number. -/
theorem getLsbD_eq_of_toNat {w : Word} {i : Nat} {b : Bool} (h : w.toNat / 2 ^ i % 2 = b.toNat) :
    w.getLsbD i = b := by
  rw [BitVec.getLsbD, Nat.testBit_eq_decide_div_mod_eq, h]
  cases b <;> rfl

/-- Settles O47, by the number STATUS reads. -/
theorem statusBitsReadTheFlags : Obligations.StatusBitsReadTheFlags := by
  unfold Obligations.StatusBitsReadTheFlags
  intro s
  have hn := readReg_status_toNat s
  have hverdict := verdictCode_le s.verdict
  have hwhy := s.implWhy.isLt
  have h0 := s.pktValid.toNat_le
  have h1 := s.pktPushed.toNat_le
  have h2 := s.diagDummy.toNat_le
  have h7 := s.passActive.toNat_le
  have h8 := s.prevValid.toNat_le
  have h12 := s.empty.toNat_le
  have hempty : (s.readReg .status).getLsbD 12 = true ↔ s.accCount = 0#32 := by
    rw [getLsbD_eq_of_toNat (b := s.empty) (by omega)]
    exact beq_iff_eq
  refine ⟨getLsbD_eq_of_toNat ?_, getLsbD_eq_of_toNat ?_, getLsbD_eq_of_toNat ?_, ?_,
    getLsbD_eq_of_toNat ?_, getLsbD_eq_of_toNat ?_, ?_, hempty, ?_⟩
  all_goals omega

/-- Settles O52: no register is too wide for its word, CUR_LEFT by the cursor invariant. -/
theorem registersReadTheirFields : Obligations.RegistersReadTheirFields := by
  unfold Obligations.RegistersReadTheirFields
  intro s
  have narrow {n : Nat} (x : BitVec n) (hn : n ≤ 32) : (x.setWidth 32).toNat = x.toNat :=
    BitVec.toNat_setWidth_of_le hn
  have number {n : Nat} (hn : n < 337) : (BitVec.ofNat 32 n).toNat = n :=
    Nat.mod_eq_of_lt (by omega)
  have hlen := s.curLen.isLt
  have hleft (h : s.Inv) :
      ((s.readReg .curLeft).toNat : Int) = 8 * s.curLen.val - s.curPos.val := by
    have hcursor := h.cursor
    have hread : (s.readReg .curLeft).toNat = s.curLeft :=
      number (by rw [State.curLeft]; omega)
    rw [hread, State.curLeft]
    omega
  have hresult : (s.readReg .result).toNat = Terms.resultCode s.result := by
    rw [State.readReg, narrow _ (by decide)]
    cases s.result <;> rfl
  exact ⟨⟨rfl, rfl, rfl⟩, hresult, narrow _ (by decide), narrow _ (by decide), rfl,
    narrow _ (by decide), number (by omega), number (by omega), hleft, rfl, rfl, rfl, rfl, rfl, rfl,
    rfl, narrow _ (by decide), rfl, rfl, rfl, rfl, rfl, rfl, rfl, rfl, fun _ => rfl,
    fun _ => ⟨narrow _ (by decide), rfl, rfl⟩, fun _ => ⟨narrow _ (by decide), rfl, rfl⟩⟩

/-! ### Reset values -/

/-- Every register but RBUF reads its reset value in a reset state, whatever its parameters. -/
theorem readReg_resetWith (config : Config) (rbuf : Vector Byte 42) {r : Reg}
    (hr : ∀ w, r ≠ .rbuf w) :
    (State.resetWith config rbuf).readReg r = Terms.resetReading r := by
  cases r with
  | rbuf w => exact absurd rfl (hr w)
  | status => exact BitVec.eq_of_toNat_eq (readReg_status_toNat _)
  | pkt j => exact Vector.getElem_replicate _
  | rctl c | rmin c | rmax c =>
    have hc : (State.resetWith config rbuf).chan[c] = ChanBound.reset := Vector.getElem_replicate _
    simp only [State.readReg, hc]
    rfl
  | ectl k | elo k | ehi k =>
    have hk : (State.resetWith config rbuf).cam[k] = CamEntry.reset := Vector.getElem_replicate _
    simp only [State.readReg, hk]
    rfl
  | _ => rfl

/-- No register reads the model's own fields for the outside world. -/
theorem readReg_outside (s : State) (bus : BusPort) (resets : Nat) (r : Reg) :
    ({ s with bus := bus, resets := resets } : State).readReg r = s.readReg r := by
  cases r <;> rfl

theorem readReg_hardResetRegs (s : State) {r : Reg} (hr : ∀ w, r ≠ .rbuf w) :
    s.hardResetRegs.readReg r = Terms.resetReading r :=
  (readReg_outside _ _ _ r).trans (readReg_resetWith _ _ hr)

theorem step_hardReset {s : State} {rest : List HostEvent}
    (h : s.bus.pending = .hardReset :: rest) :
    step s = .next (s.afterTaking rest).hardResetRegs := by
  simp only [step, nextEvent, h, handleEvent]

/-- Settles O3: the reset leaves a reset state, whatever the free record. -/
theorem hardwareResetRestoresEveryRegisterButRbuf :
    Obligations.HardwareResetRestoresEveryRegisterButRbuf := by
  unfold Obligations.HardwareResetRestoresEveryRegisterButRbuf
  intro s rest h
  exact ⟨_, step_hardReset h, fun r hr => readReg_hardResetRegs _ hr, rfl, rfl⟩

/-- Settles O4, as a reset state with the default parameters. -/
theorem resetStateReadsTheResetValues : Obligations.ResetStateReadsTheResetValues := by
  unfold Obligations.ResetStateReadsTheResetValues
  exact ⟨fun r hr => readReg_resetWith _ _ hr, rfl⟩

end Sys2Proof.Machine
end

section
/-! SUPPORT. Host writes, register by register: what a permitted write sets, and what every write
leaves as it is (10_state.md R23, R58; 20_memory.md R75). -/

namespace Sys2Proof.Machine

/-! ### A write read back -/

/-- Replacing one entry of a table changes what `f` reads of entry i only if i is the entry and
`f` reads the part that changed. -/
theorem read_set_of_same {α β : Type} {n : Nat} (f : α → β) (xs : Vector α n) (i j : Fin n) (e : α)
    (h : i = j → f e = f xs[j]) : f (xs.set j e)[i] = f xs[i] := by
  by_cases hij : i = j
  · subst hij
    rw [← h rfl]
    exact congrArg f (Vector.getElem_set_self _)
  · have hne : j.val ≠ i.val := fun hv => hij (Fin.ext hv.symm)
    exact congrArg f (Vector.getElem_set_ne j.isLt i.isLt hne)

/-- The bytes of a record after word w is written (20_memory.md R76). -/
theorem recordByte_setRecordWord (r : Vector Byte 42) (w : Fin 11) (v : Word) (j : Nat) :
    recordByte (setRecordWord r w v) j =
      if j / 4 = w.val ∧ j < 42 then v.extractLsb' (8 * (j % 4)) 8 else recordByte r j := by
  by_cases hj : j < 42
  · rw [recordByte_of_lt _ hj, recordByte_of_lt _ hj, setRecordWord_getElem]
    simp only [hj, and_true]
  · rw [recordByte_of_le _ (by omega), recordByte_of_le _ (by omega), if_neg (by omega)]

theorem recordWord_setRecordWord_ne (r : Vector Byte 42) {w q : Fin 11} (h : q ≠ w) (v : Word) :
    recordWord (setRecordWord r w v) q = recordWord r q := by
  have hne : q.val ≠ w.val := fun hv => h (Fin.ext hv)
  have hb (i : Nat) (hi : i < 4) :
      recordByte (setRecordWord r w v) (4 * q.val + i) = recordByte r (4 * q.val + i) := by
    rw [recordByte_setRecordWord, if_neg (by omega)]
  have hb0 : recordByte (setRecordWord r w v) (4 * q.val) = recordByte r (4 * q.val) :=
    hb 0 (by decide)
  simp only [recordWord, hb 3 (by decide), hb 2 (by decide), hb 1 (by decide), hb0]

/-- A written record word reads as written; RBUF10 has 16 bits (10_state.md R42). -/
theorem recordWord_setRecordWord_same (r : Vector Byte 42) (w : Fin 11) (v : Word) :
    (recordWord (setRecordWord r w v) w).toNat = v.toNat % 2 ^ (if w = 10 then 16 else 32) := by
  have hb (i : Nat) (hi : i < 4) (hw : 4 * w.val + i < 42) :
      (recordByte (setRecordWord r w v) (4 * w.val + i)).toNat = v.toNat / 2 ^ (8 * i) % 2 ^ 8 := by
    rw [recordByte_setRecordWord, if_pos (by omega), show (4 * w.val + i) % 4 = i by omega,
      BitVec.extractLsb'_toNat, Nat.shiftRight_eq_div_pow]
  have hv := v.isLt
  have hw := w.isLt
  have hb0 := hb 0 (by decide) (by omega)
  have hb1 := hb 1 (by decide) (by omega)
  rw [Nat.add_zero] at hb0
  rw [recordWord_toNat, hb0, hb1]
  by_cases h10 : w.val = 10
  · have hb2 := recordByte_of_le (setRecordWord r w v) (j := 4 * w.val + 2) (by omega)
    have hb3 := recordByte_of_le (setRecordWord r w v) (j := 4 * w.val + 3) (by omega)
    rw [hb2, hb3, if_pos (Fin.ext h10)]
    simp only [BitVec.ofNat_eq_ofNat, BitVec.toNat_ofNat]
    omega
  · rw [hb 2 (by decide) (by omega), hb 3 (by decide) (by omega),
      if_neg fun h => h10 (congrArg Fin.val h)]
    omega

/-- A register that a write sets reads the value masked to its width (20_memory.md R75). -/
theorem readReg_writeReg_same (s : State) {r : Reg} (v : Word)
    (hr : r.accessClass = .rw ∨ r.accessClass = .lk) :
    (s.writeReg r v).readReg r = BitVec.ofNat 32 (v.toNat % 2 ^ r.width) := by
  have full : v = BitVec.ofNat 32 (v.toNat % 2 ^ 32) := by
    rw [Nat.mod_eq_of_lt v.isLt, BitVec.ofNat_toNat, BitVec.setWidth_eq]
  have narrow (n : Nat) (hn : n < 32) :
      (v.setWidth n).setWidth 32 = BitVec.ofNat 32 (v.toNat % 2 ^ n) := by
    apply BitVec.eq_of_toNat_eq
    simp
  cases r with
  | rbuf w =>
    have hlt : v.toNat % 2 ^ (Reg.rbuf w).width < 2 ^ 32 := (Nat.mod_le _ _).trans_lt v.isLt
    apply BitVec.eq_of_toNat_eq
    exact (recordWord_setRecordWord_same s.rbuf w v).trans (Nat.mod_eq_of_lt hlt).symm
  | ctrl => exact narrow 5 (by decide)
  | rlen => exact narrow 8 (by decide)
  | maxJump | sxIn | vlimPress | vlimLat | vlimLon | vlimTemp => exact full
  | rctl c =>
    simp only [State.writeReg, State.readReg, Fin.getElem_fin, Vector.getElem_set_self]
    exact narrow 2 (by decide)
  | ectl k =>
    simp only [State.writeReg, State.readReg, Fin.getElem_fin, Vector.getElem_set_self]
    exact narrow 1 (by decide)
  | rmin c | rmax c | elo k | ehi k =>
    simp only [State.writeReg, State.readReg, Fin.getElem_fin, Vector.getElem_set_self]
    exact full
  | _ => simp [Reg.accessClass] at hr

/-- Every register but the written one reads as before (20_memory.md R75). -/
theorem readReg_writeReg_ne (s : State) {r q : Reg} (v : Word) (hq : q ≠ r) :
    (s.writeReg r v).readReg q = s.readReg q := by
  cases r with
  | ctrl | maxJump | rlen | sxIn | vlimPress | vlimLat | vlimLon | vlimTemp =>
    -- q reads a field the write leaves, or is r itself
    cases q <;> first | rfl | exact absurd rfl hq
  | rbuf w =>
    cases q with
    | rbuf u =>
      have hu : u ≠ w := fun h => hq (congrArg Reg.rbuf h)
      simp only [State.writeReg, State.readReg, recordWord_setRecordWord_ne s.rbuf hu v]
    | status => simp only [State.writeReg, State.readReg, State.statusBits, State.empty]
    | curLeft => simp only [State.writeReg, State.readReg, State.curLeft]
    | _ => simp only [State.writeReg, State.readReg]
  | rctl c | rmin c | rmax c =>
    cases q with
    | rctl d =>
      exact read_set_of_same (fun b : ChanBound => b.ctl.setWidth 32) s.chan d c _ (by simp_all)
    | rmin d => exact read_set_of_same ChanBound.min s.chan d c _ (by simp_all)
    | rmax d => exact read_set_of_same ChanBound.max s.chan d c _ (by simp_all)
    | _ => rfl
  | ectl k | elo k | ehi k =>
    cases q with
    | ectl d =>
      exact read_set_of_same (fun e : CamEntry => e.ctl.setWidth 32) s.cam d k _ (by simp_all)
    | elo d => exact read_set_of_same CamEntry.lo s.cam d k _ (by simp_all)
    | ehi d => exact read_set_of_same CamEntry.hi s.cam d k _ (by simp_all)
    | _ => rfl
  | _ => rfl

@[simp] theorem State.writeReg_bus (s : State) (r : Reg) (v : Word) :
    (s.writeReg r v).bus = s.bus := by
  cases r <;> rfl

@[simp] theorem State.writeReg_config (s : State) (r : Reg) (v : Word) :
    (s.writeReg r v).config = s.config := by
  cases r <;> rfl

/-! ### The step of a host write -/

section
variable {s : State} {r : Reg} {v : Word} {rest : List HostEvent}
variable (hr : Terms.Exists s.config r)
  (h : s.bus.pending = .write (BitVec.ofNat 12 r.offset) 32 v :: rest)
include hr h

theorem step_write_permitted
    (hc : r.accessClass = .rw ∨ r.accessClass = .lk ∧ s.passActive = false) :
    step s = .next ((Terms.answered s rest).writeReg r v) := by
  rw [step_write hr h]
  obtain hc | ⟨hc, hp⟩ := hc
  · simp only [writeByClass, hc]
  · have hp' : (Terms.answered s rest).passActive = false := hp
    simp only [writeByClass, hc, hp', Bool.false_eq_true, if_false]

theorem step_write_locked (hc : r.accessClass = .lk) (hp : s.passActive = true) :
    step s = .next ((Terms.answered s rest).setErr errCfgLocked) := by
  have hp' : (Terms.answered s rest).passActive = true := hp
  rw [step_write hr h]
  simp only [writeByClass, hc, hp', if_true]

theorem step_write_readOnly (hc : r.accessClass = .ro) :
    step s = .next (Terms.answered s rest) := by
  rw [step_write hr h]
  simp only [writeByClass, hc]

end

/-- A write to ERR clears exactly the bits written 1 (10_state.md R30). -/
theorem State.acknowledge_err_bit (s : State) (v : Word) (k : Fin 10) :
    (s.acknowledge v).err[k] = (s.err[k] && !v.getLsbD k.val) := by
  simp

/-- Settles O43: the written register reads the masked value, every other one as before. -/
theorem writesSetTheRegisterMaskedAndNoOther :
    Obligations.WritesSetTheRegisterMaskedAndNoOther := by
  unfold Obligations.WritesSetTheRegisterMaskedAndNoOther
  intro s r v rest hr hc h
  have houtside (q : Reg) : (Terms.answered s rest).readReg q = s.readReg q := by cases q <;> rfl
  refine ⟨_, step_write_permitted hr h hc, ?_, ?_, State.writeReg_bus _ _ _,
    State.writeReg_config _ _ _⟩
  · exact readReg_writeReg_same _ v (hc.imp_right And.left)
  · intro q hq
    exact (readReg_writeReg_ne _ v hq).trans (houtside q)

/-- Settles O44, class by class. -/
theorem lockedReadOnlyAndErrWrites : Obligations.LockedReadOnlyAndErrWrites := by
  unfold Obligations.LockedReadOnlyAndErrWrites
  intro s r v rest hr h
  refine ⟨step_write_locked hr h, step_write_readOnly hr h, ?_⟩
  rintro rfl
  exact ⟨_, step_write hr h, fun k => State.acknowledge_err_bit _ v k, rfl⟩

/-- Settles O53: each offset is a register of class RW, written in a pass or not. -/
theorem writesOfRwRegistersSetTheirFields : Obligations.WritesOfRwRegistersSetTheirFields := by
  unfold Obligations.WritesOfRwRegistersSetTheirFields
  intro s v rest
  rw [BitVec.ofNat_toNat]
  exact ⟨fun h => step_write_permitted (r := .rlen) trivial h (.inl rfl),
    fun h => step_write_permitted (r := .sxIn) trivial h (.inl rfl),
    fun h => step_write_permitted (r := .vlimPress) trivial h (.inl rfl),
    fun h => step_write_permitted (r := .vlimLat) trivial h (.inl rfl),
    fun h => step_write_permitted (r := .vlimLon) trivial h (.inl rfl),
    fun h => step_write_permitted (r := .vlimTemp) trivial h (.inl rfl)⟩

/-- Settles O54: each offset is a register of class LK, written outside a pass. -/
theorem writesOfLockedRegistersSetTheirFields :
    Obligations.WritesOfLockedRegistersSetTheirFields := by
  unfold Obligations.WritesOfLockedRegistersSetTheirFields
  intro s v rest hp
  simp only [BitVec.ofNat_toNat]
  refine ⟨fun h => step_write_permitted (r := .ctrl) trivial h (.inr ⟨rfl, hp⟩),
    fun h => step_write_permitted (r := .maxJump) trivial h (.inr ⟨rfl, hp⟩),
    fun c => ⟨?_, ?_, ?_⟩, fun k hk => ⟨?_, ?_, ?_⟩⟩
  · exact fun h => step_write_permitted (r := .rctl c) trivial h (.inr ⟨rfl, hp⟩)
  · exact fun h => step_write_permitted (r := .rmin c) trivial h (.inr ⟨rfl, hp⟩)
  · exact fun h => step_write_permitted (r := .rmax c) trivial h (.inr ⟨rfl, hp⟩)
  · exact fun h => step_write_permitted (r := .ectl k) hk h (.inr ⟨rfl, hp⟩)
  · exact fun h => step_write_permitted (r := .elo k) hk h (.inr ⟨rfl, hp⟩)
  · exact fun h => step_write_permitted (r := .ehi k) hk h (.inr ⟨rfl, hp⟩)

/-- Settles O35: a write that reaches CMD runs its word. -/
theorem stepRunsTheDecodedCommand : Obligations.StepRunsTheDecodedCommand := by
  unfold Obligations.StepRunsTheDecodedCommand
  intro s w rest h
  have hs : step s = executeCommand w (Terms.answered s rest) :=
    step_write (r := .cmd) trivial h
  constructor
  · intro i hd
    rw [hs, executeCommand, hd]
    rfl
  · intro e hd
    rw [hs, executeCommand, hd]
    rfl

end Sys2Proof.Machine
end

section
/-! SUPPORT. The invariants: what each operation keeps, each command's effect, and every step. -/

namespace Sys2Proof.Machine

/-! ### What a command leaves -/

/-- Every way a command can end, with the state it leaves: what `exec` answers, read backwards.
`raised` leaves open which code ends which command; the `exec…_cases` lemmas say when
(40_bitcursor.md R145, R146; 41_fieldcodec.md R160; 42_packetdecoder.md R182; 43_batchdecoder.md
R211; 44_filterpipeline.md R231, R233, R240; 45_control.md R270, R272). -/
inductive Effect (s : State) : Instr → State → Prop where
  | raised (i : Instr) (c : ResultCode) : Effect s i (s.raise c)
  | nop : Effect s .nop s.succeed
  | cursorReset (h : s.rlen.toNat ≤ 42) : Effect s .curReset
      { s with curLen := Fin.ofNat 43 s.rlen.toNat, curPos := 0, result := .ok }
  | bitsRead (n : Nat) (h : s.curPos.val + n ≤ 8 * s.curLen.val) : Effect s (.curRead n)
      { s with
        curData := BitVec.ofNat 32 (readBits s.rbuf s.curPos.val n)
        curPos := Fin.ofNat 337 (s.curPos.val + n), result := .ok }
  | extended (b : Nat) : Effect s (.sext b)
      { s with sxOut := u32 (signExtend (uval s.sxIn) b), result := .ok }
  | noRecord (i : Instr) (hi : i = .decode ∨ i = .decodePush) :
      Effect s i (s.holdNoRecord.raise .wrongLength)
  | implausible (i : Instr) (hi : i = .decode ∨ i = .decodePush) (hl : s.rlen = 42#8)
      (why : BitVec 4) :
      Effect s i ((s.holdImplausible (decodedFields s.rbuf) why).raise .implausible)
  | held (hl : s.rlen = 42#8) : Effect s .decode (s.holdPacket (decodedFields s.rbuf)).succeed
  | heldAndPushed (hl : s.rlen = 42#8) (hq : s.seqIdx ≠ 0xFFFFFFFF#32) :
      Effect s .decodePush (s.holdPacket (decodedFields s.rbuf)).pushBody.succeed
  | passBegun : Effect s .filterBegin
      { s with
        passActive := true, prevValid := false, prevTime := 0#24, seqIdx := 0#32
        accCount := 0#32, dropTime := 0#32, dropRange := 0#32, dropManual := 0#32
        decOk := 0#32, decFail := 0#32, lastDelta := 0#32, verdict := .noPush, result := .ok }
  | pushed (hv : s.pktValid = true) (hq : s.seqIdx ≠ 0xFFFFFFFF#32) :
      Effect s .filterPush s.pushBody.succeed
  | passEnded : Effect s .filterEnd { s with passActive := false, result := .ok }
  | softReset : Effect s .softReset s.softResetRegs.succeed

/-- The inversion of `exec`: a command's next state is one of its effects. -/
theorem exec_effect {i : Instr} {s t : State} (h : exec i s = .next t) : Effect s i t := by
  cases i with
  | nop => cases h; exact .nop
  | curReset =>
    rcases execCurReset_cases s with ⟨_, he⟩ | ⟨hl, he⟩ <;> cases he.symm.trans h
    · exact .raised _ _
    · exact .cursorReset hl
  | curRead n =>
    rcases execCurRead_cases n s with ⟨_, he⟩ | ⟨_, _, he⟩ | ⟨_, hl, he⟩ <;> cases he.symm.trans h
    · exact .raised _ _
    · exact .raised _ _
    · exact .bitsRead n hl
  | sext b =>
    rcases execSext_cases b s with ⟨_, he⟩ | ⟨_, _, _, he⟩ <;> cases he.symm.trans h
    · exact .raised _ _
    · exact .extended b
  | decode =>
    rcases execDecode_cases s with ⟨_, he⟩ | ⟨hl, _, he⟩ | ⟨hl, _, he⟩ <;> cases he.symm.trans h
    · exact .noRecord _ (.inl rfl)
    · exact .implausible _ (.inl rfl) hl _
    · exact .held hl
  | decodePush =>
    rcases execDecodePush_cases s with ⟨_, he⟩ | ⟨_, _, he⟩ | ⟨_, _, _, he⟩ | ⟨_, _, hl, _, he⟩ |
      ⟨_, hq, hl, _, he⟩ <;> cases he.symm.trans h
    · exact .raised _ _
    · exact .raised _ _
    · exact .noRecord _ (.inr rfl)
    · exact .implausible _ (.inr rfl) hl _
    · exact .heldAndPushed hl hq
  | filterBegin => cases h; exact .passBegun
  | filterPush =>
    rcases execFilterPush_cases s with ⟨_, he⟩ | ⟨_, _, he⟩ | ⟨_, _, _, _, he⟩ |
      ⟨_, hv, _, hq, he⟩ <;> cases he.symm.trans h
    · exact .raised _ _
    · exact .raised _ _
    · exact .raised _ _
    · exact .pushed hv hq
  | filterEnd => cases h; exact .passEnded
  | softReset => cases h; exact .softReset

/-! ### The invariants, operation by operation -/

theorem FieldKind.inRange_zero (w : Nat) (k : FieldKind) : k.inRange w 0#32 := by
  have hpos : (0 : Int) < 2 ^ (w - 1) := by positivity
  cases k with
  | signed => exact ⟨neg_nonpos.mpr hpos.le, hpos⟩
  | unsigned => exact Nat.two_pow_pos w
  | bitfield => exact Nat.two_pow_pos w
  | discarded => exact Nat.two_pow_pos w

namespace State.Inv

variable {s : State}

theorem succeed (h : s.Inv) : s.succeed.Inv := { h with }

theorem raise (h : s.Inv) (c : ResultCode) : (s.raise c).Inv := { h with }

theorem setErr (h : s.Inv) (m : BitVec 10) : (s.setErr m).Inv := { h with }

theorem acknowledge (h : s.Inv) (v : Word) : (s.acknowledge v).Inv := { h with }

theorem respond (h : s.Inv) (r : BusResponse) : (s.respond r).Inv := { h with }

theorem afterTaking (h : s.Inv) (rest : List HostEvent) : (s.afterTaking rest).Inv := { h with }

/-- The reset values meet the invariants for all legal parameters (10_state.md R62). -/
theorem resetWith {config : Config} (hc : config.Legal) (rbuf : Vector Byte 42) :
    (State.resetWith config rbuf).Inv where
  legal := hc
  cursor := Nat.le_refl 0
  fields := by
    intro j
    have h0 : (State.resetWith config rbuf).pkt[j] = 0#32 := Vector.getElem_replicate _
    exact h0 ▸ FieldKind.inRange_zero _ _
  counts := rfl
  plausible := fun _ => rfl
  pushed := Bool.noConfusion
  dummy := Bool.noConfusion
  noPush := ⟨fun _ => rfl, fun _ => rfl⟩
  baseline := Bool.noConfusion
  noBaseline := fun _ => rfl
  camEnd := fun _ _ => Vector.getElem_replicate _

theorem softResetRegs (h : s.Inv) : s.softResetRegs.Inv := { resetWith h.legal s.rbuf with }

theorem hardResetRegs (h : s.Inv) : s.hardResetRegs.Inv :=
  { resetWith h.legal (Config.freeRecord (s.resets + 1)) with }

/-- The cursor of a whole record is inside it (42_packetdecoder.md R183). -/
theorem cursor_at_record_end : (336 : Fin 337).val ≤ 8 * (42 : Fin 43).val := by decide

theorem holdNoRecord (h : s.Inv) : s.holdNoRecord.Inv :=
  { h with
    plausible := fun _ => rfl
    pushed := Bool.noConfusion
    dummy := Bool.noConfusion }

theorem holdImplausible (h : s.Inv) (why : BitVec 4) :
    (s.holdImplausible (decodedFields s.rbuf) why).Inv :=
  { h with
    cursor := cursor_at_record_end
    fields := decodedFields_inRange s.rbuf
    plausible := Bool.noConfusion
    pushed := Bool.noConfusion
    dummy := by simp }

theorem holdPacket (h : s.Inv) : (s.holdPacket (decodedFields s.rbuf)).Inv :=
  { h with
    cursor := cursor_at_record_end
    fields := decodedFields_inRange s.rbuf
    plausible := fun _ => rfl
    pushed := Bool.noConfusion
    dummy := by simp }

/-- A push counts its packet once, at its verdict (44_filterpipeline.md R246). -/
theorem pushBody (h : s.Inv) (hv : s.pktValid = true) (hq : s.seqIdx ≠ 0xFFFFFFFF#32) :
    s.pushBody.Inv := by
  have hc := h.counts
  have hseq : (s.seqIdx + 1#32).toNat = s.seqIdx.toNat + 1 := by bv_omega
  have hne : s.seqIdx + 1#32 ≠ 0#32 := by bv_omega
  rw [State.pushBody_eq]
  exact
    { h with
      counts := by
        rcases s.pushVerdict_cases with ⟨_, e⟩ | ⟨_, _, e⟩ | ⟨_, _, _, e⟩ | ⟨_, _, _, e⟩ <;>
          simp only [e, reduceCtorEq, if_false, if_true, hseq] <;> bv_omega
      pushed := fun _ => hv
      noPush := iff_of_false s.pushVerdict_ne_noPush hne
      baseline := fun _ => hne
      noBaseline := by
        intro hb
        obtain ⟨hm, hp⟩ := Bool.or_eq_false_iff.mp hb
        simpa [hm] using h.noBaseline hp }

/-- A CAM entry that exists may be written. -/
theorem setCam (h : s.Inv) {k : Fin 64} (hk : k.val < s.config.nExcl) (e : CamEntry) :
    ({ s with cam := s.cam.set k e } : State).Inv :=
  { h with
    camEnd := by
      intro j (hj : s.config.nExcl ≤ j.val)
      have hjk : k.val ≠ j.val := by omega
      exact (Vector.getElem_set_ne k.isLt j.isLt hjk).trans (h.camEnd j hj) }

/-- A host write to a register that exists keeps the invariants. -/
theorem writeReg (h : s.Inv) {r : Reg} (hr : Terms.Exists s.config r) (v : Word) :
    (s.writeReg r v).Inv := by
  cases r with
  | ectl k => exact h.setCam hr _
  | elo k => exact h.setCam hr _
  | ehi k => exact h.setCam hr _
  | _ => exact { h with }

/-- Every command keeps the invariants. -/
theorem effect (h : s.Inv) {i : Instr} {t : State} (he : Effect s i t) : t.Inv := by
  cases he with
  | raised => exact h.raise _
  | nop => exact h.succeed
  | cursorReset => exact { h with cursor := Nat.zero_le _ }
  | bitsRead n hl => exact { h with cursor := (curPos_after_read hl).trans_le hl }
  | extended => exact { h with }
  | noRecord => exact h.holdNoRecord.raise _
  | implausible => exact (h.holdImplausible _).raise _
  | held => exact h.holdPacket.succeed
  | heldAndPushed _ hq => exact (h.holdPacket.pushBody rfl hq).succeed
  | passBegun =>
    exact
      { h with
        counts := rfl
        noPush := ⟨fun _ => rfl, fun _ => rfl⟩
        baseline := Bool.noConfusion
        noBaseline := fun _ => rfl }
  | pushed hv hq => exact (h.pushBody hv hq).succeed
  | passEnded => exact { h with }
  | softReset => exact h.softResetRegs.succeed

end State.Inv

/-- Settles O37, by the invariants of every reset state with legal parameters. -/
theorem resetStateMeetsTheInvariants : Obligations.ResetStateMeetsTheInvariants := by
  unfold Obligations.ResetStateMeetsTheInvariants
  exact State.Inv.resetWith (by decide) _

/-- Every step keeps the invariants, transition by transition. -/
theorem State.Inv.transition {s t : State} (h : s.Inv) (ht : Transition s t) : t.Inv := by
  cases ht with
  | idle => exact h
  | reset rest => exact (h.afterTaking rest).hardResetRegs
  | read rest => exact (h.afterTaking rest).respond _
  | readError rest => exact ((h.afterTaking rest).setErr _).respond _
  | writeError rest => exact ((h.afterTaking rest).setErr _).respond _
  | write rest a w v r _ hr =>
    obtain ⟨_, _, hm⟩ := target_offset hr
    exact ((h.afterTaking rest).respond _).writeReg (exists_of_regAt hm) v
  | ignored rest => exact (h.afterTaking rest).respond _
  | acknowledge rest v => exact ((h.afterTaking rest).respond _).acknowledge v
  | locked rest => exact ((h.afterTaking rest).respond _).setErr _
  | command rest v i t _ _ he => exact ((h.afterTaking rest).respond _).effect (exec_effect he)
  | illegal rest => exact ((h.afterTaking rest).respond _).raise _

/-- Settles O38, by the transitions of a step and the effects of a command. -/
theorem everyStepKeepsTheInvariants : Obligations.EveryStepKeepsTheInvariants := by
  unfold Obligations.EveryStepKeepsTheInvariants
  intro s t h hs
  exact h.transition (step_cases hs)

end Sys2Proof.Machine
end

section
/-! SUPPORT. Which commands and accesses change the packet, the pipeline state and the sticky
errors, read off the effects of a command and the transitions of a step. -/

namespace Sys2Proof.Machine

variable {s t : State}

/-! ### The operations -/

@[simp] theorem State.pushBody_pkt (s : State) : s.pushBody.pkt = s.pkt := by
  rw [State.pushBody_eq]

@[simp] theorem State.pushBody_err (s : State) : s.pushBody.err = s.err := by
  rw [State.pushBody_eq]

@[simp] theorem State.writeReg_pkt (s : State) (r : Reg) (v : Word) :
    (s.writeReg r v).pkt = s.pkt := by
  cases r <;> rfl

@[simp] theorem State.writeReg_err (s : State) (r : Reg) (v : Word) :
    (s.writeReg r v).err = s.err := by
  cases r <;> rfl

/-- What a pass keeps from push to push (10_state.md R38). -/
def State.pipeline (s : State) : BitVec 24 × Bool × Word := (s.prevTime, s.prevValid, s.seqIdx)

theorem State.writeReg_pipeline (s : State) (r : Reg) (v : Word) :
    (s.writeReg r v).pipeline = s.pipeline := by
  cases r <;> rfl

/-! ### The packet -/

/-- Only a decode of 42 bytes and SOFT_RESET change the packet (42_packetdecoder.md R182). -/
theorem Effect.pkt {i : Instr} (h : Effect s i t) :
    t.pkt = s.pkt ∨ i = .softReset ∨ (s.rlen = 42#8 ∧ (i = .decode ∨ i = .decodePush)) := by
  cases h with
  | implausible _ hi hl => exact .inr (.inr ⟨hl, hi⟩)
  | held hl => exact .inr (.inr ⟨hl, .inl rfl⟩)
  | heldAndPushed hl => exact .inr (.inr ⟨hl, .inr rfl⟩)
  | softReset => exact .inr (.inl rfl)
  | pushed => exact .inl s.pushBody_pkt
  | _ => exact .inl rfl

/-- Settles O22, by the effects of a command: no other transition touches the packet. -/
theorem onlyDecodesAndResetsChangeThePacket : Obligations.OnlyDecodesAndResetsChangeThePacket := by
  unfold Obligations.OnlyDecodesAndResetsChangeThePacket
  intro s t hs hne
  cases step_cases hs with
  | reset rest h => exact .inl ⟨rest, h⟩
  | write => exact absurd (State.writeReg_pkt ..) hne
  | command rest v i _ h hd he =>
    have hnext : Terms.NextCommand s i := ⟨v, rest, h, hd⟩
    obtain hpkt | rfl | ⟨hl, rfl | rfl⟩ := (exec_effect he).pkt
    · exact absurd hpkt hne
    · exact .inr (.inl hnext)
    · exact .inr (.inr ⟨hl, .inl hnext⟩)
    · exact .inr (.inr ⟨hl, .inr hnext⟩)
  | _ => exact absurd rfl hne

/-! ### The pipeline state -/

/-- Only the commands of a pass and SOFT_RESET change the pipeline state
(44_filterpipeline.md R258). -/
theorem Effect.pipeline {i : Instr} (h : Effect s i t) :
    t.pipeline = s.pipeline ∨
      (i = .filterBegin ∨ i = .filterPush ∨ i = .decodePush ∨ i = .softReset) := by
  cases h with
  | heldAndPushed => exact .inr (.inr (.inr (.inl rfl)))
  | passBegun => exact .inr (.inl rfl)
  | pushed => exact .inr (.inr (.inl rfl))
  | softReset => exact .inr (.inr (.inr (.inr rfl)))
  | _ => exact .inl rfl

/-- Settles O33, by the effects of a command: no other transition touches the pipeline state. -/
theorem onlyPassCommandsChangeThePipelineState :
    Obligations.OnlyPassCommandsChangeThePipelineState := by
  unfold Obligations.OnlyPassCommandsChangeThePipelineState
  intro s t hs hne
  have hne' : t.pipeline ≠ s.pipeline := by
    intro h
    simp only [State.pipeline, Prod.mk.injEq] at h
    simp [h] at hne
  cases step_cases hs with
  | reset rest h => exact .inl ⟨rest, h⟩
  | write => exact absurd (State.writeReg_pipeline ..) hne'
  | command rest v i _ h hd he =>
    exact .inr ⟨i, ⟨v, rest, h, hd⟩, (exec_effect he).pipeline.resolve_left hne'⟩
  | _ => exact absurd rfl hne'

/-! ### The sticky errors -/

/-- Every ERR bit set in s is set in t. -/
def State.ErrKept (s t : State) : Prop := ∀ k : Fin 10, s.err[k] = true → t.err[k] = true

theorem errKept_of_eq (h : t.err = s.err) : s.ErrKept t := by
  intro k hk
  rwa [h]

theorem errKept_of_or {m : BitVec 10} (h : t.err = s.err ||| m) : s.ErrKept t := by
  intro k hk
  rw [h]
  simp_all

/-- Every command but SOFT_RESET keeps the bits set (45_control.md R273). -/
theorem Effect.errKept {i : Instr} (h : Effect s i t) : s.ErrKept t ∨ i = .softReset := by
  cases h with
  | raised => exact .inl (errKept_of_or rfl)
  | noRecord => exact .inl (errKept_of_or rfl)
  | implausible => exact .inl (errKept_of_or rfl)
  | heldAndPushed => exact .inl (errKept_of_eq (State.pushBody_err _))
  | pushed => exact .inl (errKept_of_eq s.pushBody_err)
  | softReset => exact .inr rfl
  | _ => exact .inl (errKept_of_eq rfl)

/-- Settles O39: every transition but a reset and an acknowledgement keeps the bits set. -/
theorem errBitsAreStickyUntilAcknowledged : Obligations.ErrBitsAreStickyUntilAcknowledged := by
  unfold Obligations.ErrBitsAreStickyUntilAcknowledged
  intro s t k hs hset hclear
  have hlost : ¬ s.ErrKept t := fun h => by simp [h k hset] at hclear
  cases step_cases hs with
  | reset rest h => exact .inl ⟨rest, h⟩
  | acknowledge rest v h =>
    have hbit : (s.err[k] && !v.getLsbD k.val) = false :=
      (State.acknowledge_err_bit _ v k).symm.trans hclear
    exact .inr (.inr ⟨v, rest, h, by simpa [hset] using hbit⟩)
  | command rest v i _ h hd he =>
    obtain hkept | rfl := (exec_effect he).errKept
    · exact (hlost hkept).elim
    · exact .inr (.inl ⟨v, rest, h, hd⟩)
  | write => exact (hlost (errKept_of_eq (State.writeReg_err ..))).elim
  | readError => exact (hlost (errKept_of_or rfl)).elim
  | writeError => exact (hlost (errKept_of_or rfl)).elim
  | locked => exact (hlost (errKept_of_or rfl)).elim
  | illegal => exact (hlost (errKept_of_or rfl)).elim
  | _ => exact (hlost (errKept_of_eq rfl)).elim

end Sys2Proof.Machine
end

section
/-! SUPPORT. Bus accesses and the record buffer's words: what a read answers, which accesses reach
no register, and a record word as a field of record bits (20_memory.md R74 to R80). -/

namespace Sys2Proof.Machine

/-! ### The step of a host read -/

theorem target_afterTaking (s : State) (rest : List HostEvent) (a : BitVec 12) (width : Nat) :
    (s.afterTaking rest).target a width = s.target a width := rfl

/-- A read that reaches a register answers its value, without error (20_memory.md R74). -/
theorem step_read {s : State} {a : BitVec 12} {width : Nat} {r : Reg} {rest : List HostEvent}
    (ht : s.target a width = some r) (h : s.bus.pending = .read a width :: rest) :
    step s = .next ((s.afterTaking rest).respond ⟨some (s.readReg r), false⟩) := by
  simp only [step, nextEvent, h, handleEvent, memRead, target_afterTaking, ht, readReg_afterTaking]

/-- Settles O41: the read reaches the register that exists at its offset. -/
theorem readsAnswerTheRegisterAndChangeNothing :
    Obligations.ReadsAnswerTheRegisterAndChangeNothing := by
  unfold Obligations.ReadsAnswerTheRegisterAndChangeNothing
  intro s r rest hr h
  exact step_read (target_of_exists hr) h

/-! ### Accesses that reach no register -/

/-- Only a 32-bit access at the offset of a register that exists, which is a multiple of 4, reaches
a register (20_memory.md R77). -/
theorem target_eq_none {s : State} {a : BitVec 12} {width : Nat}
    (hbad : width ≠ 32 ∨ a.toNat % 4 ≠ 0 ∨
      ∀ r, Terms.Exists s.config r → a.toNat ≠ r.offset) :
    s.target a width = none := by
  refine Option.eq_none_iff_forall_ne_some.mpr fun r ht => ?_
  obtain ⟨hwidth, ha, hm⟩ := target_offset ht
  obtain hw | hmod | hunmapped := hbad
  · exact hw hwidth
  · exact hmod (ha ▸ r.offset_lt_and_aligned.2)
  · exact hunmapped r (exists_of_regAt hm) ha

section
variable {s : State} {a : BitVec 12} {width : Nat} {v : Word} {rest : List HostEvent}
variable (ht : s.target a width = none)
include ht

theorem step_read_error (h : s.bus.pending = .read a width :: rest) :
    step s = .next (((s.afterTaking rest).setErr errBus).respond ⟨some 0#32, true⟩) := by
  simp only [step, nextEvent, h, handleEvent, memRead, target_afterTaking, ht]

theorem step_write_error (h : s.bus.pending = .write a width v :: rest) :
    step s = .next (((s.afterTaking rest).setErr errBus).respond ⟨none, true⟩) := by
  simp only [step, nextEvent, h, handleEvent, memWrite, target_afterTaking, ht]

end

/-- Settles O42: the access reaches no register, so a read and a write get the error response. -/
theorem illegalAccessesOnlySetErrBus : Obligations.IllegalAccessesOnlySetErrBus := by
  unfold Obligations.IllegalAccessesOnlySetErrBus
  intro s a width v rest hbad
  have ht := target_eq_none hbad
  exact ⟨step_read_error ht, step_write_error ht⟩

/-! ### The record buffer's words -/

/-- Settles O45: the write is permitted, and sets the bytes of its word. -/
theorem rbufWordWritesSetTheirBytes : Obligations.RbufWordWritesSetTheirBytes := by
  unfold Obligations.RbufWordWritesSetTheirBytes
  intro s w v rest h
  have hs : step s = .next ((Terms.answered s rest).writeReg (.rbuf w) v) :=
    step_write_permitted (r := .rbuf w) trivial h (.inl rfl)
  refine ⟨_, hs, fun j => ?_, rfl⟩
  have hbyte : v.extractLsb' (8 * (j.val % 4)) 8 =
      BitVec.ofNat 8 (v.toNat / 2 ^ (8 * (j.val % 4))) := by
    rw [BitVec.extractLsb', Nat.shiftRight_eq_div_pow]
  exact hbyte ▸ setRecordWord_getElem s.rbuf w v j.val j.isLt

/-- The statements' record bit is the model's; past the record both are 0. -/
theorem terms_bit_eq (r : Vector Byte 42) (k : Nat) : Terms.bit r k = (recordBit r k).toNat := by
  rw [recordBit_toNat, Terms.bit, recordByte, List.getD_eq_getElem?_getD, Vector.getElem?_toList]
  rfl

/-- The statements' bit sum is the value of a bit read (40_bitcursor.md R142). -/
theorem bitsValue_eq_readBits (r : Vector Byte 42) (p n : Nat) :
    Terms.bitsValue r p n = readBits r p n := by
  simp only [Terms.bitsValue, readBits_eq_sum, terms_bit_eq]

/-- Sixteen bits from a byte boundary are two bytes, little-endian (20_memory.md R79). -/
theorem readBits_two_bytes (r : Vector Byte 42) (j : Nat) :
    readBits r (8 * j) 16 = (recordByte r j).toNat + (recordByte r (j + 1)).toNat * 2 ^ 8 := by
  rw [readBits_append r (8 * j) 8 8, ← Nat.mul_succ, readBits_byte, readBits_byte]

/-- A record word is 32 record bits, those past the record being 0 (20_memory.md R80). -/
theorem recordWord_eq_readBits (r : Vector Byte 42) (w : Fin 11) :
    (recordWord r w).toNat = readBits r (32 * w.val) 32 := by
  have hlow := readBits_two_bytes r (4 * w.val)
  have hhigh := readBits_two_bytes r (4 * w.val + 2)
  rw [show 8 * (4 * w.val) = 32 * w.val by omega] at hlow
  rw [show 8 * (4 * w.val + 2) = 32 * w.val + 16 by omega] at hhigh
  rw [readBits_append r (32 * w.val) 16 16, hlow, hhigh, recordWord_toNat]
  ring

/-- No bit of a record is past its 42 bytes (10_state.md R42). -/
theorem readBits_past_record (r : Vector Byte 42) {p : Nat} (hp : 336 ≤ p) (n : Nat) :
    readBits r p n = 0 := by
  induction n generalizing p with
  | zero => rfl
  | succ n ih =>
    have hbit : recordBit r p = false := by
      rw [recordBit, recordByte_of_le r (by omega)]
      exact BitVec.getLsbD_zero
    rw [readBits, hbit, ih (by omega)]
    rfl

/-- Settles O46: of RBUF10's 32 bits, the upper 16 are past the record. -/
theorem rbufWordsReadAsRecordBits : Obligations.RbufWordsReadAsRecordBits := by
  unfold Obligations.RbufWordsReadAsRecordBits
  intro s w
  rw [bitsValue_eq_readBits, State.readReg, recordWord_eq_readBits]
  split
  · next hw =>
    have hupper := readBits_past_record s.rbuf (p := 32 * w.val + 16) (by omega) 16
    rw [readBits_append s.rbuf (32 * w.val) 16 16, hupper, Nat.zero_mul, Nat.add_zero]
  · rfl

end Sys2Proof.Machine
end

section
/-! SUPPORT. Command words: their three fields, the opcode map in both directions, and decoding as
the inverse of encoding (30_encoding.md R110 to R114). -/

namespace Sys2Proof

/-! ### The fields of a word -/

theorem opField_toNat (w : Word) : (opField w).toNat = w.toNat % 256 := by
  rw [opField, BitVec.extractLsb'_toNat, Nat.shiftRight_zero]

theorem aField_toNat (w : Word) : (aField w).toNat = w.toNat / 256 % 256 := by
  rw [aField, BitVec.extractLsb'_toNat, Nat.shiftRight_eq_div_pow]

theorem rsvField_toNat (w : Word) : (rsvField w).toNat = w.toNat / 65536 := by
  rw [rsvField, BitVec.extractLsb'_toNat, Nat.shiftRight_eq_div_pow]
  omega

/-- RSV, A and OP are all of a word (30_encoding.md R110). -/
theorem fields_append (w : Word) : rsvField w ++ aField w ++ opField w = w := by
  apply BitVec.eq_of_toNat_eq
  rw [Machine.toNat_append_eq, Machine.toNat_append_eq, opField_toNat, aField_toNat, rsvField_toNat]
  omega

/-! ### The opcode map -/

/-- No two opcodes share an OP byte (30_encoding.md R112). -/
theorem Opcode.ofByte_eq_some_iff {b : BitVec 8} {op : Opcode} :
    Opcode.ofByte b = some op ↔ b = op.code := by
  constructor
  · intro h
    unfold Opcode.ofByte at h
    split_ifs at h with hb <;> cases h <;> assumption
  · rintro rfl
    cases op <;> rfl

/-- The OP bytes outside the map (30_encoding.md R114). -/
theorem Opcode.ofByte_eq_none_iff {b : BitVec 8} :
    Opcode.ofByte b = none ↔
      b.toNat ∉ [0x00, 0x01, 0x02, 0x03, 0x10, 0x11, 0x20, 0x21, 0x22, 0xFF] := by
  revert b
  decide

/-- An operand is allowed on CUR_READ and SEXT only (30_encoding.md R111). -/
theorem Opcode.takesOperand_eq_false_iff (op : Opcode) :
    op.takesOperand = false ↔ op.code.toNat ∉ [0x02, 0x03] := by
  cases op <;> decide

section
variable (op : Opcode) (a : BitVec 8)

theorem Opcode.command_wellFormed : (op.command a.toNat).WellFormed := by
  cases op with
  | curRead | sext => exact decide_eq_true a.isLt
  | _ => rfl

theorem Opcode.opcode_command : (op.command a.toNat).opcode = op := by
  cases op <;> rfl

variable {op a}

theorem Opcode.operand_command (h : a = 0#8 ∨ op.takesOperand = true) :
    (op.command a.toNat).operand = a := by
  cases op with
  | curRead | sext => exact (BitVec.ofNat_toNat 8 a).trans (BitVec.setWidth_eq a)
  | _ => exact (h.resolve_right Bool.false_ne_true).symm

end

/-! ### Decoding -/

/-- The words that decode, and to which command (30_encoding.md R113). -/
theorem decode_eq_ok_iff {w : Word} {i : Instr} :
    decode w = .ok i ↔ ∃ op : Opcode, opField w = op.code ∧ rsvField w = 0#16 ∧
      (aField w = 0#8 ∨ op.takesOperand = true) ∧ op.command (aField w).toNat = i := by
  simp only [← Opcode.ofByte_eq_some_iff]
  unfold decode
  cases Opcode.ofByte (opField w) with
  | none => simp
  | some op =>
    dsimp only
    split_ifs with hrsv ha
    · simp [hrsv]
    · simp [ha]
    · have ha' : aField w = 0#8 ∨ op.takesOperand = true := by
        simpa [or_iff_not_imp_left] using ha
      simp [not_not.mp hrsv, ha']

/-- The words the decoder rejects, by their fields (30_encoding.md R114). -/
theorem decode_eq_error_iff {w : Word} :
    (∃ e, decode w = .error e) ↔ Opcode.ofByte (opField w) = none ∨ rsvField w ≠ 0#16 ∨
      (aField w ≠ 0#8 ∧ (opField w).toNat ∉ [0x02, 0x03]) := by
  unfold decode
  cases hop : Opcode.ofByte (opField w) with
  | none => simp
  | some op =>
    rw [Opcode.ofByte_eq_some_iff.mp hop, ← op.takesOperand_eq_false_iff]
    dsimp only
    split_ifs with hrsv ha
    · simp [hrsv]
    · simp [ha]
    · simp [hrsv, ha]

theorem decode_encode {i : Instr} (h : i.WellFormed) : decode (encode i) = .ok i := by
  cases i with
  | nop => exact Laws.RoundTrip.nop h
  | curReset => exact Laws.RoundTrip.curReset h
  | curRead n => exact Laws.RoundTrip.curRead n h
  | sext bits => exact Laws.RoundTrip.sext bits h
  | decode => exact Laws.RoundTrip.decode h
  | decodePush => exact Laws.RoundTrip.decodePush h
  | filterBegin => exact Laws.RoundTrip.filterBegin h
  | filterPush => exact Laws.RoundTrip.filterPush h
  | filterEnd => exact Laws.RoundTrip.filterEnd h
  | softReset => exact Laws.RoundTrip.softReset h

/-- A word that decodes is made of its command's fields. -/
theorem encode_of_decode {w : Word} {i : Instr} (h : decode w = .ok i) : encode i = w := by
  obtain ⟨op, hop, hrsv, ha, rfl⟩ := decode_eq_ok_iff.mp h
  rw [encode, Opcode.operand_command ha, Opcode.opcode_command, ← hop, ← hrsv, fields_append]

theorem wellFormed_of_decode {w : Word} {i : Instr} (h : decode w = .ok i) : i.WellFormed := by
  obtain ⟨op, _, _, _, rfl⟩ := decode_eq_ok_iff.mp h
  exact op.command_wellFormed (aField w)

/-! ### The obligations -/

/-- Settles O5: the round trip of each command. -/
theorem decodeUndoesEncode : Obligations.DecodeUndoesEncode := by
  unfold Obligations.DecodeUndoesEncode
  exact fun _ h => decode_encode h

/-- Settles O6: the fields of a word that decodes are those of its command. -/
theorem everyCommandHasOneWord : Obligations.EveryCommandHasOneWord := by
  unfold Obligations.EveryCommandHasOneWord
  exact fun _ _ h => ⟨wellFormed_of_decode h, encode_of_decode h⟩

/-- Settles O7: each of the ten words is the one word of its command. -/
theorem opcodeMapWordsDecode : Obligations.OpcodeMapWordsDecode := by
  unfold Obligations.OpcodeMapWordsDecode
  exact ⟨decode_encode (i := .nop) rfl, decode_encode (i := .curReset) rfl,
    decode_encode (i := .curRead 24) rfl, decode_encode (i := .sext 14) rfl,
    decode_encode (i := .decode) rfl, decode_encode (i := .decodePush) rfl,
    decode_encode (i := .filterBegin) rfl, decode_encode (i := .filterPush) rfl,
    decode_encode (i := .filterEnd) rfl, decode_encode (i := .softReset) rfl⟩

/-- Settles O8: the rejected words by their fields, read as numbers; a rejected word raises
ILLEGAL_CMD. -/
theorem illegalWordsChangeOnlyResultAndErr : Obligations.IllegalWordsChangeOnlyResultAndErr := by
  unfold Obligations.IllegalWordsChangeOnlyResultAndErr
  intro w s
  constructor
  · rw [decode_eq_error_iff, Opcode.ofByte_eq_none_iff, ← opField_toNat, ← aField_toNat,
      ← rsvField_toNat]
    simp only [ne_eq, BitVec.toNat_eq, BitVec.toNat_ofNat, Nat.zero_mod]
  · rintro ⟨e, he⟩
    rw [Machine.executeCommand, he]
    rfl

end Sys2Proof
end

section
/-! SUPPORT. The fields of a record: the bits of one byte and the bits that go on into the next
(20_memory.md R78, R79), the value of each PKT register from its raw field, and the byte-level forms
and ranges of the wire format (30_encoding.md R102, R105). -/

namespace Sys2Proof.Machine

variable (r : Vector Byte 42)

/-! ### Bits within bytes -/

/-- Bits i to i + n - 1 of byte j. -/
theorem readBits_in_byte (j : Nat) {i n : Nat} (h : i + n ≤ 8) :
    readBits r (8 * j + i) n = (recordByte r j).toNat / 2 ^ i % 2 ^ n := by
  obtain ⟨m, hm⟩ : ∃ m, i + (n + m) = 8 := ⟨8 - (i + n), by omega⟩
  have hlow := readBits_lt r (8 * j) i
  have hmid := readBits_lt r (8 * j + i) n
  have hbyte : (recordByte r j).toNat = readBits r (8 * j) (i + (n + m)) := by
    rw [hm, readBits_byte]
  rw [hbyte, readBits_append, readBits_append r (8 * j + i),
    Nat.add_mul_div_right _ _ (Nat.two_pow_pos i), Nat.div_eq_of_lt hlow, Nat.zero_add,
    Nat.add_mul_mod_self_right, Nat.mod_eq_of_lt hmid]

/-- The low n bits of byte j. -/
theorem readBits_byte_low (j : Nat) {n : Nat} (h : n ≤ 8) :
    readBits r (8 * j) n = (recordByte r j).toNat % 2 ^ n := by
  have hb := readBits_in_byte r j (i := 0) (n := n) (by omega)
  rwa [Nat.add_zero, Nat.pow_zero, Nat.div_one] at hb

/-- A read that goes on past byte j has the bits of byte j from i on below the rest. -/
theorem readBits_from_byte (j : Nat) {i : Nat} (hi : i ≤ 8) (n : Nat) :
    readBits r (8 * j + i) (8 - i + n) =
      (recordByte r j).toNat / 2 ^ i + readBits r (8 * (j + 1)) n * 2 ^ (8 - i) := by
  have hb : (recordByte r j).toNat / 2 ^ i < 2 ^ (8 - i) := by
    rw [Nat.div_lt_iff_lt_mul (Nat.two_pow_pos i), ← Nat.pow_add, Nat.sub_add_cancel hi]
    exact (recordByte r j).isLt
  rw [readBits_append, readBits_in_byte r j (by omega), Nat.mod_eq_of_lt hb,
    show 8 * j + i + (8 - i) = 8 * (j + 1) by omega]

/-! ### The value of a field -/

variable {r} {j : Fin 20}

theorem rawField_lt (r : Vector Byte 42) (j : Fin 20) : rawField r j < 2 ^ layout[j].width :=
  readBits_lt _ _ _

theorem layout_width (j : Fin 20) : 1 ≤ layout[j].width ∧ layout[j].width ≤ 32 := by
  revert j
  decide

theorem decodedFields_getElem (r : Vector Byte 42) (j : Fin 20) :
    (decodedFields r)[j] = layout[j].kind.convert layout[j].width (rawField r j) := by
  simp [decodedFields]

/-- A field that is not signed is its raw value (41_fieldcodec.md R164). -/
theorem decodedFields_toNat (h : layout[j].kind ≠ .signed) :
    (decodedFields r)[j].toNat = rawField r j := by
  have hlt : rawField r j < 2 ^ 32 :=
    (rawField_lt r j).trans_le (Nat.pow_le_pow_right (by decide) (layout_width j).2)
  rw [decodedFields_getElem]
  cases hk : layout[j].kind with
  | signed => exact absurd hk h
  | _ => exact (BitVec.toNat_ofNat _ 32).trans (Nat.mod_eq_of_lt hlt)

/-- A signed field is its raw value in two's complement (41_fieldcodec.md R164). -/
theorem decodedFields_toInt (h : layout[j].kind = .signed) :
    (decodedFields r)[j].toInt = Terms.signedField layout[j].width (rawField r j) := by
  obtain ⟨hw, hw'⟩ := layout_width j
  have hraw := rawField_lt r j
  rw [decodedFields_getElem, h, FieldKind.convert, toInt_u32_signExtend hw hw' hraw,
    signExtend_eq hw hraw, Terms.signedField]

/-! ### The raw fields in bytes (30_encoding.md R102) -/

/-- A 16-bit field starts at a byte. -/
theorem rawField_two_bytes {k : Nat} (hw : layout[j].width = 16) (hk : firstBit j.val = 8 * k) :
    rawField r j = (recordByte r k).toNat + (recordByte r (k + 1)).toNat * 2 ^ 8 := by
  rw [rawField, hw, hk, readBits_two_bytes]

variable (r)

theorem rawField_timeMs : rawField r 0 = (recordByte r 0).toNat + (recordByte r 1).toNat * 2 ^ 8 +
    (recordByte r 2).toNat * 2 ^ 16 := by
  have h : rawField r 0 = readBits r (8 * 0) (16 + 8) := rfl
  rw [h, readBits_append, readBits_two_bytes, readBits_byte r 2]

theorem rawField_tempCC : rawField r 1 = (recordByte r 3).toNat +
    (recordByte r 4).toNat % 64 * 2 ^ 8 := by
  have h : rawField r 1 = readBits r (8 * 3) (8 + 6) := rfl
  rw [h, readBits_append, readBits_byte, readBits_byte_low r 4 (by decide)]
  rfl

theorem rawField_pressPa : rawField r 2 = (recordByte r 4).toNat / 2 ^ 6 +
    (recordByte r 5).toNat * 2 ^ 2 + (recordByte r 6).toNat * 2 ^ 10 +
    (recordByte r 7).toNat % 4 * 2 ^ 18 := by
  have h : rawField r 2 = readBits r (8 * 4 + 6) (8 - 6 + (16 + 2)) := rfl
  rw [h, readBits_from_byte r 4 (by decide), readBits_append, readBits_two_bytes r 5,
    readBits_byte_low r 7 (by decide)]
  simp only [Nat.reduceAdd]
  omega

theorem rawField_lat1e7 : rawField r 3 = (recordByte r 7).toNat / 2 ^ 2 +
    (recordByte r 8).toNat * 2 ^ 6 + (recordByte r 9).toNat * 2 ^ 14 +
    (recordByte r 10).toNat * 2 ^ 22 := by
  have h : rawField r 3 = readBits r (8 * 7 + 2) (8 - 2 + (16 + 8)) := rfl
  rw [h, readBits_from_byte r 7 (by decide), readBits_append, readBits_two_bytes r 8,
    readBits_byte r 10]
  simp only [Nat.reduceAdd]
  omega

theorem rawField_lon1e7 : rawField r 4 = (recordByte r 11).toNat + (recordByte r 12).toNat * 2 ^ 8 +
    (recordByte r 13).toNat * 2 ^ 16 + (recordByte r 14).toNat % 64 * 2 ^ 24 := by
  have h : rawField r 4 = readBits r (8 * 11) (16 + (8 + 6)) := rfl
  rw [h, readBits_append, readBits_two_bytes r 11, readBits_append, readBits_byte r 13,
    readBits_byte_low r 14 (by decide)]
  simp only [Nat.reduceAdd]
  omega

theorem rawField_dummy : rawField r 5 = (recordByte r 14).toNat / 2 ^ 6 := by
  have h : rawField r 5 = readBits r (8 * 14 + 6) 2 := rfl
  have hb := (recordByte r 14).isLt
  rw [h, readBits_in_byte r 14 (by decide)]
  omega

theorem rawField_flags : rawField r 15 = (recordByte r 33).toNat := readBits_byte r 33

/-- Settles O17: each register's value from its raw field, and the raw field in bytes. -/
theorem decodedFieldsAreTheByteForms : Obligations.DecodedFieldsAreTheByteForms := by
  unfold Obligations.DecodedFieldsAreTheByteForms
  intro r
  have hb : (fun j => (r.toList.getD j 0).toNat) = fun j => (recordByte r j).toNat := by
    funext j
    rw [List.getD_eq_getElem?_getD, Vector.getElem?_toList]
    rfl
  have sg (j : Fin 20) (hk : layout[j].kind = .signed) {x : Nat} (hx : rawField r j = x) :
      (decodedFields r)[j].toInt = Terms.signedField layout[j].width x :=
    hx ▸ decodedFields_toInt hk
  have un (j : Fin 20) (hk : layout[j].kind ≠ .signed) {x : Nat} (hx : rawField r j = x) :
      (decodedFields r)[j].toNat = x :=
    hx ▸ decodedFields_toNat hk
  rw [hb]
  exact ⟨un 0 (by decide) (rawField_timeMs r), sg 1 rfl (rawField_tempCC r),
    un 2 (by decide) (rawField_pressPa r), sg 3 rfl (rawField_lat1e7 r),
    sg 4 rfl (rawField_lon1e7 r), un 5 (by decide) (rawField_dummy r),
    sg 6 rfl (rawField_two_bytes rfl rfl), sg 7 rfl (rawField_two_bytes rfl rfl),
    sg 8 rfl (rawField_two_bytes rfl rfl), sg 9 rfl (rawField_two_bytes rfl rfl),
    sg 10 rfl (rawField_two_bytes rfl rfl), sg 11 rfl (rawField_two_bytes rfl rfl),
    sg 12 rfl (rawField_two_bytes rfl rfl), sg 13 rfl (rawField_two_bytes rfl rfl),
    sg 14 rfl (rawField_two_bytes rfl rfl), un 15 (by decide) (rawField_flags r),
    un 16 (by decide) (rawField_two_bytes rfl rfl), un 17 (by decide) (rawField_two_bytes rfl rfl),
    un 18 (by decide) (rawField_two_bytes rfl rfl),
    un 19 (by decide) (rawField_two_bytes rfl rfl)⟩

/-! ### The ranges of the fields (30_encoding.md R105) -/

theorem decodedFields_toNat_le (r : Vector Byte 42) {j : Fin 20} {w : Nat}
    (h : layout[j].kind ≠ .signed ∧ layout[j].width = w) :
    (decodedFields r)[j].toNat ≤ 2 ^ w - 1 := by
  rw [← h.2, decodedFields_toNat h.1]
  exact Nat.le_sub_one_of_lt (rawField_lt r j)

theorem decodedFields_toInt_bounds (r : Vector Byte 42) {j : Fin 20} {w : Nat}
    (h : layout[j].kind = .signed ∧ layout[j].width = w) :
    -2 ^ (w - 1) ≤ (decodedFields r)[j].toInt ∧
      (decodedFields r)[j].toInt ≤ 2 ^ (w - 1) - 1 := by
  have hrange := decodedFields_inRange r j
  rw [h.1, h.2] at hrange
  exact ⟨hrange.1, Int.le_sub_one_of_lt hrange.2⟩

/-- Settles O18: the range of each row of the layout, from its width and kind. -/
theorem decodedFieldsFitTheirWidths : Obligations.DecodedFieldsFitTheirWidths := by
  unfold Obligations.DecodedFieldsFitTheirWidths
  intro r
  have temp := decodedFields_toInt_bounds r (j := 1) (w := 14) (by decide)
  have position (j : Fin 20) (h : j.val = 3 ∨ j.val = 4) :=
    decodedFields_toInt_bounds r (j := j) (w := 30) (by decide +revert)
  have sensor (j : Fin 20) (h : 6 ≤ j.val) (h' : j.val ≤ 14) :=
    decodedFields_toInt_bounds r (j := j) (w := 16) (by decide +revert)
  have radData (j : Fin 20) (h : 16 ≤ j.val) :=
    decodedFields_toNat_le r (j := j) (w := 16) (by decide +revert)
  norm_num at temp position sensor
  exact ⟨decodedFields_toNat_le r (j := 0) (w := 24) (by decide), temp,
    decodedFields_toNat_le r (j := 2) (w := 20) (by decide), position,
    decodedFields_toNat_le r (j := 5) (w := 2) (by decide), sensor,
    decodedFields_toNat_le r (j := 15) (w := 8) (by decide), radData⟩

end Sys2Proof.Machine
end

section
/-! SUPPORT. Loading a record over the bus (30_encoding.md R119): what one host write answers, and
what writing the words of a record leaves in the buffer. -/

namespace Sys2Proof.Machine

/-- A permitted register write is answered and sets its register (20_memory.md R75). -/
theorem handleEvent_wr {s : State} {r : Reg} (v : Word) (hr : Terms.Exists s.config r)
    (hc : r.accessClass = .rw ∨ r.accessClass = .lk ∧ s.passActive = false) :
    handleEvent (wr r v) s = .next ((s.respond ⟨none, false⟩).writeReg r v) := by
  simp only [wr, handleEvent, memWrite, target_of_exists hr, writeByClass]
  obtain hc | ⟨hc, hp⟩ := hc
  · simp only [hc]
  · simp only [hc, State.respond_passActive, hp, Bool.false_eq_true, if_false]

/-- Byte `k % 4` of a record word is the record's byte (10_state.md R42). -/
theorem recordWord_extractLsb' (record : Vector Byte 42) {w : Fin 11} {k : Nat} (h : k < 42)
    (hw : k / 4 = w.val) : (recordWord record w).extractLsb' (8 * (k % 4)) 8 = record[k] := by
  have hk : k = 4 * w.val + k % 4 := by omega
  have h0 := (recordByte record (4 * w.val)).isLt
  have h1 := (recordByte record (4 * w.val + 1)).isLt
  have h2 := (recordByte record (4 * w.val + 2)).isLt
  have h3 := (recordByte record (4 * w.val + 3)).isLt
  apply BitVec.eq_of_toNat_eq
  rw [BitVec.extractLsb'_toNat, Nat.shiftRight_eq_div_pow, recordWord_toNat,
    ← recordByte_of_lt record h]
  have hm : k % 4 = 0 ∨ k % 4 = 1 ∨ k % 4 = 2 ∨ k % 4 = 3 := by omega
  obtain hm | hm | hm | hm := hm <;> rw [hm] at hk ⊢ <;> rw [hk] <;>
    simp only [Nat.add_zero, Nat.reduceMul, Nat.reducePow] <;> omega

/-- A buffer after words `ws` of a record are written into it, one after another. -/
def storeWords (record buf : Vector Byte 42) (ws : List (Fin 11)) : Vector Byte 42 :=
  ws.foldl (fun b w => setRecordWord b w (recordWord record w)) buf

theorem storeWords_cons (record buf : Vector Byte 42) (w : Fin 11) (ws : List (Fin 11)) :
    storeWords record buf (w :: ws) =
      storeWords record (setRecordWord buf w (recordWord record w)) ws := rfl

/-- A byte is the record's if its word is written or it is the record's already. -/
theorem storeWords_getElem (record : Vector Byte 42) {k : Nat} (hk : k < 42) (ws : List (Fin 11))
    (buf : Vector Byte 42) (h : (∃ w ∈ ws, k / 4 = w.val) ∨ buf[k] = record[k]) :
    (storeWords record buf ws)[k] = record[k] := by
  induction ws generalizing buf with
  | nil => simpa [storeWords] using h
  | cons w ws ih =>
    rw [storeWords_cons]
    refine ih _ ?_
    rw [setRecordWord_getElem buf w _ k hk]
    by_cases hw : k / 4 = w.val
    · rw [if_pos hw, recordWord_extractLsb' record hk hw]
      exact .inr rfl
    · simpa [hw] using h

theorem storeWords_all (record buf : Vector Byte 42) :
    storeWords record buf (List.finRange 11) = record := by
  ext k hk
  rw [storeWords_getElem record hk _ _ (.inl ⟨⟨k / 4, by omega⟩, List.mem_finRange _, rfl⟩)]

/-- The RBUF writes of a record's words change the buffer only. -/
theorem handleEvents_wr_rbuf (record : Vector Byte 42) (ws : List (Fin 11)) (s : State) :
    ∃ t, handleEvents (ws.map fun w => wr (.rbuf w) (recordWord record w)) s = .next t ∧
      t = { s with rbuf := storeWords record s.rbuf ws, bus := t.bus } ∧
      t.bus.pending = s.bus.pending := by
  induction ws generalizing s with
  | nil => exact ⟨s, rfl, rfl, rfl⟩
  | cons w ws ih =>
    obtain ⟨t, ht, hframe, hbus⟩ := ih { s with
      rbuf := setRecordWord s.rbuf w (recordWord record w),
      bus := ⟨s.bus.pending, some ⟨none, false⟩⟩ }
    have hw := handleEvent_wr (s := s) (r := .rbuf w) (recordWord record w) trivial (.inl rfl)
    refine ⟨t, ?_, ?_, hbus⟩
    · rw [List.map_cons, handleEvents, hw]
      exact ht
    · rw [storeWords_cons]
      exact hframe

/-- Settles O48: the eleven words of the record fill the buffer, and the last write sets RLEN. -/
theorem loadRecLoadsTheRecord : Obligations.LoadRecLoadsTheRecord := by
  unfold Obligations.LoadRecLoadsTheRecord
  intro s record
  obtain ⟨t, ht, hframe, hbus⟩ := handleEvents_wr_rbuf record (List.finRange 11) s
  have hlen := handleEvent_wr (s := t) (r := .rlen) 42#32 trivial (.inl rfl)
  have hwords : loadWords record 11 =
      (List.finRange 11).map fun w => wr (.rbuf w) (recordWord record w) := by
    rw [loadWords, List.filter_eq_self.mpr fun w _ => decide_eq_true w.isLt]
  refine ⟨(t.respond ⟨none, false⟩).writeReg .rlen 42#32, ?_, ?_, ?_⟩
  · rw [loadRec, hwords, handleEvents_append ht]
    simp only [handleEvents, hlen]
  · rw [storeWords_all] at hframe
    rw [hframe]
    rfl
  · exact hbus

end Sys2Proof.Machine
end

section
/-! SUPPORT. The cursor: what CUR_RESET and CUR_READ answer, the byte-chunk loop of a read, and what
moves the position (40_bitcursor.md R141 to R147). -/

namespace Sys2Proof.Machine

variable {s t : State} {n : Nat}

/-! ### The commands -/

/-- Settles O9, by the two ends of CUR_RESET. -/
theorem curResetLatchesRlenOrEndsOperandRange :
    Obligations.CurResetLatchesRlenOrEndsOperandRange := by
  unfold Obligations.CurResetLatchesRlenOrEndsOperandRange
  intro s
  obtain ⟨hlen, he⟩ | ⟨hlen, he⟩ := execCurReset_cases s
  · exact ⟨fun _ => he, fun h => absurd hlen h.not_gt⟩
  · exact ⟨fun h => absurd h hlen.not_gt,
      fun _ => ⟨_, he, Nat.mod_eq_of_lt (Nat.lt_succ_of_le hlen), rfl, rfl⟩⟩

/-- What a CUR_READ n that fits leaves (40_bitcursor.md R146). -/
def State.afterCurRead (s : State) (n : Nat) : State :=
  { s with
    curData := BitVec.ofNat 32 (readBits s.rbuf s.curPos.val n)
    curPos := Fin.ofNat 337 (s.curPos.val + n), result := .ok }

theorem exec_curRead_of_fits (hn : n ≤ 32) (hfit : s.curPos.val + n ≤ 8 * s.curLen.val) :
    exec (.curRead n) s = .next (s.afterCurRead n) := by
  obtain ⟨h, _⟩ | ⟨_, h, _⟩ | ⟨_, _, he⟩ := execCurRead_cases n s
  · exact absurd hn h.not_ge
  · exact absurd hfit h.not_ge
  · exact he

theorem State.afterCurRead_curPos (hfit : s.curPos.val + n ≤ 8 * s.curLen.val) :
    (s.afterCurRead n).curPos.val = s.curPos.val + n :=
  curPos_after_read hfit

theorem State.afterCurRead_curData (hn : n ≤ 32) :
    (s.afterCurRead n).curData.toNat = readBits s.rbuf s.curPos.val n :=
  curData_after_read s.rbuf s.curPos.val hn

/-- Settles O10, by the three ends of CUR_READ. -/
theorem curReadReadsTheNextBitsOrEndsWithItsCode :
    Obligations.CurReadReadsTheNextBitsOrEndsWithItsCode := by
  unfold Obligations.CurReadReadsTheNextBitsOrEndsWithItsCode
  intro s n
  obtain ⟨hn, he⟩ | ⟨hn, hpast, he⟩ | ⟨hn, hfit, he⟩ := execCurRead_cases n s
  · exact ⟨fun _ => he, fun h => absurd h hn.not_ge, fun h => absurd h hn.not_ge⟩
  · exact ⟨fun h => absurd h hn.not_gt, fun _ _ => he, fun _ h => absurd h hpast.not_ge⟩
  · refine ⟨fun h => absurd h hn.not_gt, fun _ h => absurd h hfit.not_gt, fun _ _ =>
      ⟨s.afterCurRead n, he, ?_, State.afterCurRead_curPos hfit, rfl⟩⟩
    rw [State.afterCurRead_curData hn, bitsValue_eq_readBits]

/-- Settles O12: the bits of the one read are those of the two, in order. -/
theorem splitReadsEqualOneRead : Obligations.SplitReadsEqualOneRead := by
  unfold Obligations.SplitReadsEqualOneRead
  intro s n1 n2 hn hfit
  have hn1 : n1 ≤ 32 := by omega
  have hn2 : n2 ≤ 32 := by omega
  have hfit1 : s.curPos.val + n1 ≤ 8 * s.curLen.val := by omega
  have hpos := State.afterCurRead_curPos hfit1
  have hfit2 : (s.afterCurRead n1).curPos.val + n2 ≤ 8 * (s.afterCurRead n1).curLen.val := by
    rw [hpos, Nat.add_assoc]
    exact hfit
  refine ⟨s.afterCurRead n1, (s.afterCurRead n1).afterCurRead n2, s.afterCurRead (n1 + n2),
    exec_curRead_of_fits hn1 hfit1, exec_curRead_of_fits hn2 hfit2,
    exec_curRead_of_fits hn hfit, Fin.ext ?_, ?_⟩
  · rw [State.afterCurRead_curPos hfit2, hpos, State.afterCurRead_curPos hfit, Nat.add_assoc]
  · rw [State.afterCurRead_curData hn, State.afterCurRead_curData hn1,
      State.afterCurRead_curData hn2, hpos, readBits_append]
    rfl

/-! ### The byte-chunk loop -/

/-- The chunk of one turn, k bits of the byte at p, is a read of k bits. -/
theorem chunk_eq_readBits (r : Vector Byte 42) {p k : Nat} (h : p % 8 + k ≤ 8) :
    ((recordByte r (p / 8)).toNat >>> (p % 8)) % 2 ^ k = readBits r p k := by
  rw [Nat.shiftRight_eq_div_pow, ← readBits_in_byte r (p / 8) h, Nat.div_add_mod]

/-- With turns enough the loop adds the bits still to read above those it has got. -/
theorem chunkLoop_eq (r : Vector Byte 42) {fuel acc got p : Nat} (h : n - got ≤ fuel) :
    chunkLoop r n fuel acc got p = acc + readBits r p (n - got) * 2 ^ got := by
  induction fuel generalizing acc got p with
  | zero =>
    rw [Nat.le_zero.mp h]
    simp [chunkLoop, readBits]
  | succ fuel ih =>
    rw [chunkLoop]
    split
    · generalize htake : min (8 - p % 8) (n - got) = take
      have hsplit : n - got = take + (n - (got + take)) := by omega
      dsimp only
      rw [ih (by omega), chunk_eq_readBits r (by omega), hsplit, readBits_append, Nat.pow_add]
      ring
    · next hdone =>
      rw [Nat.sub_eq_zero_of_le (Nat.le_of_not_gt hdone)]
      simp [readBits]

/-- Settles O11: the loop reads what `readBits` reads, the bit sum. -/
theorem chunkAlgorithmComputesTheBitSum : Obligations.ChunkAlgorithmComputesTheBitSum := by
  unfold Obligations.ChunkAlgorithmComputesTheBitSum
  intro r p n
  rw [readBitsInChunks, chunkLoop_eq r (Nat.sub_le n 0), bitsValue_eq_readBits]
  simp

/-! ### The position -/

@[simp] theorem State.pushBody_curPos (s : State) : s.pushBody.curPos = s.curPos := by
  rw [State.pushBody_eq]

@[simp] theorem State.writeReg_curPos (s : State) (r : Reg) (v : Word) :
    (s.writeReg r v).curPos = s.curPos := by
  cases r <;> rfl

/-- Only the cursor commands, a decode and SOFT_RESET move the position (40_bitcursor.md R141). -/
theorem Effect.curPos {i : Instr} (h : Effect s i t) :
    t.curPos = s.curPos ∨
      (i = .curReset ∨ (∃ n, i = .curRead n) ∨ i = .decode ∨ i = .decodePush ∨
        i = .softReset) := by
  cases h with
  | cursorReset => exact .inr (.inl rfl)
  | bitsRead n => exact .inr (.inr (.inl ⟨n, rfl⟩))
  | implausible _ hi => exact .inr (.inr (.inr (hi.imp_right .inl)))
  | held => exact .inr (.inr (.inr (.inl rfl)))
  | heldAndPushed => exact .inr (.inr (.inr (.inr (.inl rfl))))
  | softReset => exact .inr (.inr (.inr (.inr (.inr rfl))))
  | pushed => exact .inl s.pushBody_curPos
  | _ => exact .inl rfl

/-- Settles O13, by the effects of a command: no other transition moves the cursor. -/
theorem onlyCursorAndDecodeCommandsMoveTheCursor :
    Obligations.OnlyCursorAndDecodeCommandsMoveTheCursor := by
  unfold Obligations.OnlyCursorAndDecodeCommandsMoveTheCursor
  intro s t hs hne
  cases step_cases hs with
  | reset rest h => exact .inl ⟨rest, h⟩
  | write => exact absurd (State.writeReg_curPos ..) hne
  | command rest v i _ h hd he =>
    exact .inr ⟨i, ⟨v, rest, h, hd⟩, (exec_effect he).curPos.resolve_left hne⟩
  | _ => exact absurd rfl hne

end Sys2Proof.Machine
end

section
/-! SUPPORT. The field codec: what SEXT answers (41_fieldcodec.md R160), sign extension at the
boundary values (R161), and the fields of the record table (30_encoding.md R100). -/

namespace Sys2Proof.Machine

variable {s : State} {b : Nat}

/-! ### SEXT -/

/-- What a SEXT b whose operand fits leaves (41_fieldcodec.md R160). -/
def State.afterSext (s : State) (b : Nat) : State :=
  { s with sxOut := u32 (signExtend (uval s.sxIn) b), result := .ok }

/-- The two conditions of SEXT exclude each other (41_fieldcodec.md R160). -/
theorem not_operandRange_of_fits (hb : 1 ≤ b) (hb' : b ≤ 32) (hfit : s.sxIn.toNat < 2 ^ b) :
    ¬(b = 0 ∨ 32 < b ∨ 2 ^ b ≤ s.sxIn.toNat) := by
  omega

theorem exec_sext_of_fits (hb : 1 ≤ b) (hb' : b ≤ 32) (hfit : s.sxIn.toNat < 2 ^ b) :
    exec (.sext b) s = .next (s.afterSext b) := by
  obtain ⟨hbad, _⟩ | ⟨_, _, _, he⟩ := execSext_cases b s
  · exact absurd hbad (not_operandRange_of_fits hb hb' hfit)
  · exact he

theorem State.afterSext_sxOut (hb : 1 ≤ b) (hb' : b ≤ 32) (hfit : s.sxIn.toNat < 2 ^ b) :
    (s.afterSext b).sxOut.toInt = Terms.signedField b s.sxIn.toNat :=
  (toInt_u32_signExtend hb hb' hfit).trans (signExtend_eq hb hfit)

/-- Settles O14, by the two ends of SEXT. -/
theorem sextSignExtendsOrEndsOperandRange : Obligations.SextSignExtendsOrEndsOperandRange := by
  unfold Obligations.SextSignExtendsOrEndsOperandRange
  intro s b
  constructor
  · intro hbad
    obtain ⟨_, he⟩ | ⟨hb, hb', hfit, _⟩ := execSext_cases b s
    · exact he
    · exact absurd hbad (not_operandRange_of_fits hb hb' hfit)
  · exact fun hb hb' hfit =>
      ⟨s.afterSext b, exec_sext_of_fits hb hb' hfit, State.afterSext_sxOut hb hb' hfit, rfl⟩

/-! ### The boundary values -/

theorem signedField_of_lt {v : Nat} (h : v < 2 ^ (b - 1)) : Terms.signedField b v = v :=
  if_neg h.not_ge

theorem signedField_of_ge {v : Nat} (h : 2 ^ (b - 1) ≤ v) : Terms.signedField b v = v - 2 ^ b :=
  if_pos h

/-- Settles O15: each boundary value fits b bits and lies on one side of the sign bit's weight. -/
theorem sextLawsAtTheBoundaryValues : Obligations.SextLawsAtTheBoundaryValues := by
  unfold Obligations.SextLawsAtTheBoundaryValues
  intro s b hb hb' v hv
  have hpos : 0 < 2 ^ (b - 1) := Nat.two_pow_pos _
  have hdouble : 2 ^ b = 2 * 2 ^ (b - 1) := by rw [← pow_succ', Nat.sub_add_cancel hb]
  have hdoubleInt : (2 : Int) ^ b = 2 * 2 ^ (b - 1) := mod_cast hdouble
  have sext {x : Int} (hfit : v < 2 ^ b) (hx : Terms.signedField b v = x) :
      ∃ t, exec (.sext b) s = .next t ∧ t.sxOut.toInt = x := by
    subst hv
    exact ⟨_, exec_sext_of_fits hb hb' hfit, (State.afterSext_sxOut hb hb' hfit).trans hx⟩
  refine ⟨fun h => sext (by omega) ?_, fun h => sext (by omega) ?_, fun h => sext (by omega) ?_,
    fun h => sext (by omega) ?_⟩
  · rw [signedField_of_lt (by omega), h, Nat.cast_zero]
  · rw [signedField_of_ge (by omega), h, hdoubleInt]
    push_cast
    ring
  · rw [signedField_of_ge (by omega), h, Nat.cast_pred (Nat.two_pow_pos b)]
    push_cast
    ring
  · rw [signedField_of_lt (by omega), h, Nat.cast_pred hpos, Nat.cast_pow, Nat.cast_ofNat]

/-! ### The record table -/

/-- The raw value of row j is the bit sum at its first bit and width (30_encoding.md R101). -/
theorem rawField_eq_bitsValue (r : Vector Byte 42) {j : Fin 20} {o w : Nat}
    (ho : firstBit j.val = o) (hw : layout[j].width = w) :
    rawField r j = Terms.bitsValue r o w := by
  rw [bitsValue_eq_readBits, rawField, ho, hw]

/-- Settles O16: first bit, width and kind of each row of the layout are those of the table. -/
theorem decodedFieldsAreTheRecordTable : Obligations.DecodedFieldsAreTheRecordTable := by
  unfold Obligations.DecodedFieldsAreTheRecordTable
  intro r
  have sg (j : Fin 20) (hk : layout[j].kind = .signed) {o w : Nat}
      (ho : firstBit j.val = o) (hw : layout[j].width = w) :
      (decodedFields r)[j].toInt = Terms.signedField w (Terms.bitsValue r o w) := by
    rw [decodedFields_toInt hk, rawField_eq_bitsValue r ho hw, hw]
  have un (j : Fin 20) (hk : layout[j].kind ≠ .signed) {o w : Nat}
      (ho : firstBit j.val = o) (hw : layout[j].width = w) :
      (decodedFields r)[j].toNat = Terms.bitsValue r o w :=
    (decodedFields_toNat hk).trans (rawField_eq_bitsValue r ho hw)
  exact ⟨un 0 (by decide) rfl rfl, sg 1 rfl rfl rfl, un 2 (by decide) rfl rfl, sg 3 rfl rfl rfl,
    sg 4 rfl rfl rfl, un 5 (by decide) rfl rfl, sg 6 rfl rfl rfl, sg 7 rfl rfl rfl,
    sg 8 rfl rfl rfl, sg 9 rfl rfl rfl, sg 10 rfl rfl rfl, sg 11 rfl rfl rfl, sg 12 rfl rfl rfl,
    sg 13 rfl rfl rfl, sg 14 rfl rfl rfl, un 15 (by decide) rfl rfl, un 16 (by decide) rfl rfl,
    un 17 (by decide) rfl rfl, un 18 (by decide) rfl rfl, un 19 (by decide) rfl rfl⟩

end Sys2Proof.Machine
end

section
/-! SUPPORT. The packet decoder: the failing checks as the rules state them (42_packetdecoder.md
R185, R186), what DECODE answers (R181), and the limits no record passes (R187). -/

namespace Sys2Proof.Machine

variable {s : State}

/-! ### The checks -/

/-- Bit 0 PRESS, 1 LAT, 2 LON, 3 TEMP (42_packetdecoder.md R186). -/
theorem ofBool_append_eq_why (press lat lon temp : Bool) :
    BitVec.ofBool temp ++ BitVec.ofBool lon ++ BitVec.ofBool lat ++ BitVec.ofBool press =
      Terms.why press lat lon temp := by
  decide +revert

theorem why_eq_zero_iff (press lat lon temp : Bool) :
    Terms.why press lat lon temp = 0#4 ↔
      press = false ∧ lat = false ∧ lon = false ∧ temp = false := by
  decide +revert

theorem State.plausibility_eq_whyOf (s : State) (p : Vector Word 20) :
    s.plausibility p = Terms.whyOf s p := by
  simp only [State.plausibility, ofBool_append_eq_why, uval, lt_magnitude_iff, Terms.whyOf]

/-- A packet is plausible when its pressure is below its limit and no magnitude is above its own
(42_packetdecoder.md R185). -/
theorem State.plausibility_eq_zero_iff (s : State) (p : Vector Word 20) :
    s.plausibility p = 0#4 ↔ p[2].toNat < s.vlimPress.toNat ∧ |p[3].toInt| ≤ s.vlimLat.toNat ∧
      |p[4].toInt| ≤ s.vlimLon.toNat ∧ |p[1].toInt| ≤ s.vlimTemp.toNat := by
  simp only [s.plausibility_eq_whyOf, Terms.whyOf, why_eq_zero_iff, decide_eq_false_iff_not,
    not_le, not_lt]

/-! ### DECODE -/

/-- Settles O19, by the three ends of DECODE, the checks read as the rules state them. -/
theorem decodeHoldsThePacketOrEndsWithItsCode :
    Obligations.DecodeHoldsThePacketOrEndsWithItsCode := by
  unfold Obligations.DecodeHoldsThePacketOrEndsWithItsCode
  intro s
  have hcases := execDecode_cases s
  generalize decodedFields s.rbuf = p at hcases ⊢
  have hdummy : decide (p[5] ≠ 0#32) = (p[5] != 0#32) := decide_not
  dsimp only
  rw [hdummy, ← s.plausibility_eq_whyOf]
  obtain ⟨hlen, he⟩ | ⟨hlen, hfail, he⟩ | ⟨hlen, hpass, he⟩ := hcases
  · exact ⟨fun _ => he, fun h => absurd h hlen, fun h => absurd h hlen⟩
  · exact ⟨fun h => absurd hlen h, fun _ _ => he, fun _ h => absurd h hfail⟩
  · exact ⟨fun h => absurd hlen h, fun _ h => absurd hpass h, fun _ _ => he⟩

/-! ### Wide limits -/

/-- The magnitude of a signed field is at most the weight of its sign bit. -/
theorem abs_decodedFields_toInt_le (r : Vector Byte 42) {j : Fin 20} {w : Nat}
    (h : layout[j].kind = .signed ∧ layout[j].width = w) :
    |(decodedFields r)[j].toInt| ≤ 2 ^ (w - 1) := by
  obtain ⟨hlo, hhi⟩ := decodedFields_toInt_bounds r h
  exact abs_le.mpr ⟨hlo, by omega⟩

/-- The limits reach past every field: no raw pressure is as large, and no magnitude is larger
(42_packetdecoder.md R187). -/
def State.WideLimits (s : State) : Prop :=
  2 ^ 20 ≤ s.vlimPress.toNat ∧ 8192 ≤ s.vlimTemp.toNat ∧ 2 ^ 29 ≤ s.vlimLat.toNat ∧
    2 ^ 29 ≤ s.vlimLon.toNat

theorem State.WideLimits.plausibility_eq_zero (h : s.WideLimits) (r : Vector Byte 42) :
    s.plausibility (decodedFields r) = 0#4 := by
  obtain ⟨hpress, htemp, hlat, hlon⟩ := h
  have press := decodedFields_toNat_le r (j := 2) (w := 20) (by decide)
  have lat := abs_decodedFields_toInt_le r (j := 3) (w := 30) (by decide)
  have lon := abs_decodedFields_toInt_le r (j := 4) (w := 30) (by decide)
  have temp := abs_decodedFields_toInt_le r (j := 1) (w := 14) (by decide)
  norm_num at press lat lon temp
  rw [State.plausibility_eq_zero_iff]
  omega

/-- Settles O20: the reset limits are wide ones, and under wide limits every check passes. -/
theorem noRecordIsImplausibleAtWideLimits : Obligations.NoRecordIsImplausibleAtWideLimits := by
  unfold Obligations.NoRecordIsImplausibleAtWideLimits
  intro s hlen hlimits
  have hwide : s.WideLimits := by
    obtain ⟨hpress, hlat, hlon, htemp⟩ | hwide := hlimits
    · rw [State.WideLimits, hpress, hlat, hlon, htemp]
      decide
    · exact hwide
  have hpass := hwide.plausibility_eq_zero s.rbuf
  obtain ⟨h, _⟩ | ⟨_, hfail, _⟩ | ⟨_, _, he⟩ := execDecode_cases s
  · exact absurd hlen h
  · exact absurd hpass hfail
  · exact ⟨_, he, rfl, rfl, rfl⟩

end Sys2Proof.Machine
end

section
/-! SUPPORT. The batch step: what DECODE and FILTER_PUSH answer under each condition
(42_packetdecoder.md R182, 44_filterpipeline.md R233), the push as the rules state it (R234), and
what a run does first when it starts in a pass (43_batchdecoder.md R213). -/

namespace Sys2Proof.Machine

variable {s t : State}

/-! ### DECODE -/

theorem exec_decode_of_wrongLength (hlen : s.rlen ≠ 42#8) :
    exec .decode s = .next (s.holdNoRecord.raise .wrongLength) := by
  obtain ⟨_, he⟩ | ⟨h, _⟩ | ⟨h, _⟩ := execDecode_cases s
  · exact he
  · exact absurd h hlen
  · exact absurd h hlen

section
variable (hlen : s.rlen = 42#8)
include hlen

theorem exec_decode_of_implausible (hfail : s.plausibility (decodedFields s.rbuf) ≠ 0#4) :
    exec .decode s = .next ((s.holdImplausible (decodedFields s.rbuf)
      (s.plausibility (decodedFields s.rbuf))).raise .implausible) := by
  obtain ⟨h, _⟩ | ⟨_, _, he⟩ | ⟨_, h, _⟩ := execDecode_cases s
  · exact absurd hlen h
  · exact he
  · exact absurd h hfail

theorem exec_decode_of_plausible (hpass : s.plausibility (decodedFields s.rbuf) = 0#4) :
    exec .decode s = .next (s.holdPacket (decodedFields s.rbuf)).succeed := by
  obtain ⟨h, _⟩ | ⟨_, h, _⟩ | ⟨_, _, he⟩ := execDecode_cases s
  · exact absurd hlen h
  · exact absurd hpass h
  · exact he

end

/-- Of the state, the checks read the four limits only (42_packetdecoder.md R185). -/
theorem State.plausibility_congr (hpress : s.vlimPress = t.vlimPress)
    (hlat : s.vlimLat = t.vlimLat) (hlon : s.vlimLon = t.vlimLon) (htemp : s.vlimTemp = t.vlimTemp)
    (p : Vector Word 20) : s.plausibility p = t.plausibility p := by
  simp only [State.plausibility, hpress, hlat, hlon, htemp]

/-- Settles O21: both decodes have the same one of the three ends, with the same fields and
checks. -/
theorem decodeOutcomeDependsOnlyOnTheRecordAndLimits :
    Obligations.DecodeOutcomeDependsOnlyOnTheRecordAndLimits := by
  unfold Obligations.DecodeOutcomeDependsOnlyOnTheRecordAndLimits
  intro s t hrbuf hrlen hpress hlat hlon htemp
  have hwhy : s.plausibility = t.plausibility :=
    funext (State.plausibility_congr hpress hlat hlon htemp)
  by_cases hlen : t.rlen = 42#8
  · by_cases hpass : t.plausibility (decodedFields t.rbuf) = 0#4
    · refine ⟨_, _, exec_decode_of_plausible (hrlen.trans hlen) (by rwa [hwhy, hrbuf]),
        exec_decode_of_plausible hlen hpass, ?_⟩
      simp [State.holdPacket, hrbuf]
    · refine ⟨_, _, exec_decode_of_implausible (hrlen.trans hlen) (by rwa [hwhy, hrbuf]),
        exec_decode_of_implausible hlen hpass, ?_⟩
      simp [State.holdImplausible, hrbuf, hwhy]
  · refine ⟨_, _, exec_decode_of_wrongLength (by rwa [hrlen]), exec_decode_of_wrongLength hlen, ?_⟩
    simp [State.holdNoRecord]

/-! ### DECODE_PUSH in two commands -/

section
variable (hp : s.passActive = true)
include hp

theorem exec_filterPush_of_invalid (hv : s.pktValid = false) :
    exec .filterPush s = .next (s.raise .notValid) := by
  simp [exec, execFilterPush, hp, hv]

theorem exec_filterPush_of_valid (hv : s.pktValid = true) (hu : s.pktPushed = false)
    (hq : s.seqIdx ≠ 0xFFFFFFFF#32) : exec .filterPush s = .next s.pushBody.succeed := by
  simp [exec, execFilterPush, hp, hv, hu, hq]

end

/-- The push does not read the result of the command before it (44_filterpipeline.md R234). -/
theorem State.succeed_pushBody_succeed (s : State) :
    s.succeed.pushBody.succeed = s.pushBody.succeed := by
  rw [State.pushBody_eq, State.pushBody_eq]
  rfl

/-- Settles O23, by the five ends of DECODE_PUSH. -/
theorem decodePushIsDecodeThenFilterPush : Obligations.DecodePushIsDecodeThenFilterPush := by
  unfold Obligations.DecodePushIsDecodeThenFilterPush
  intro s
  obtain ⟨hp, he⟩ | ⟨hp, hq, he⟩ | ⟨hp, hq, hlen, he⟩ | ⟨hp, hq, hlen, hfail, he⟩ |
    ⟨hp, hq, hlen, hpass, he⟩ := execDecodePush_cases s
  · exact ⟨fun _ => he, by simp [hp], by simp [hp]⟩
  · exact ⟨by simp [hp], fun _ _ => he, fun _ h => absurd hq h⟩
  · refine ⟨by simp [hp], fun _ h => absurd h hq, fun _ _ =>
      ⟨_, exec_decode_of_wrongLength hlen, by simp, fun _ => ⟨.inl rfl, he, ?_⟩⟩⟩
    exact exec_filterPush_of_invalid hp rfl
  · refine ⟨by simp [hp], fun _ h => absurd h hq, fun _ _ =>
      ⟨_, exec_decode_of_implausible hlen hfail, by simp, fun _ => ⟨.inr rfl, he, ?_⟩⟩⟩
    exact exec_filterPush_of_invalid hp rfl
  · refine ⟨by simp [hp], fun _ h => absurd h hq, fun _ _ =>
      ⟨_, exec_decode_of_plausible hlen hpass, fun _ => ⟨_, ?_, rfl, he⟩, by simp⟩⟩
    rw [← State.succeed_pushBody_succeed]
    exact exec_filterPush_of_valid hp rfl rfl hq

/-! ### The push as the rules state it -/

/-- A comparison is made with the Δ of the time stage (44_filterpipeline.md R243). -/
theorem compares_iff {d : Int} : Terms.Compares s d ↔ s.timeDelta = some d := by
  rw [State.timeDelta_eq_some_iff]
  simp only [Terms.Compares, State.timeEn, State.allowWrap]
  refine and_congr_right fun _ => and_congr_right fun _ => ?_
  by_cases hneg : (s.pkt[0].toNat : Int) - s.prevTime.toNat < 0
  · by_cases hwrap : s.ctrl[3] = true
    · simp [hneg, hwrap]
      omega
    · simp [hneg, hwrap]
  · simp [hneg]
    omega

theorem timeDrops_iff : Terms.TimeDrops s ↔ s.timeFails = true := by
  rw [State.timeFails_iff]
  simp only [Terms.TimeDrops, compares_iff, State.maxJumpEn, State.allowWrap,
    ← BitVec.getLsbD_eq_getElem]

/-- The table of channel registers is the numbering of 10_state.md R50. -/
theorem channelRegs_getElem (c : Fin 18) : Terms.channelRegs[c] = chanReg c := by
  revert c; decide

theorem rangeDrops_iff : Terms.RangeDrops s ↔ s.rangeFails = true := by
  rw [State.rangeFails_iff]
  simp only [Terms.RangeDrops, channelRegs_getElem, State.rangeEn, ChanBound.minEn,
    ChanBound.maxEn, State.chanValue, s32, ← BitVec.getLsbD_eq_getElem]

theorem manualDrops_iff : Terms.ManualDrops s ↔ s.manualFails = true := by
  rw [State.manualFails_iff]
  simp only [Terms.ManualDrops, State.manualEn, CamEntry.valid, ← BitVec.getLsbD_eq_getElem]

/-- When the push moves the baseline (44_filterpipeline.md R247). -/
theorem movesBaseline_iff : s.movesBaseline = true ↔ s.ctrl[0] = true ∧ ¬ Terms.TimeDrops s ∧
    (s.config.prevOnFinal = false ∨ s.pushVerdict = .accept) := by
  simp [State.movesBaseline, State.timeEn, timeDrops_iff, BitVec.getLsbD_eq_getElem, and_assoc]

/-- The model's push is the push of the rules (44_filterpipeline.md R234). -/
theorem State.pushed_pushBody_succeed (s : State) : Terms.Pushed s s.pushBody.succeed := by
  rw [State.pushBody_eq]
  constructor
  case dropTime | dropRange | dropManual | accept =>
    simp only [timeDrops_iff, rangeDrops_iff, manualDrops_iff, State.succeed_verdict]
    obtain ⟨ht, hv⟩ | ⟨ht, hr, hv⟩ | ⟨ht, hr, hm, hv⟩ | ⟨ht, hr, hm, hv⟩ := s.pushVerdict_cases <;>
      simp [*]
  case delta =>
    intro d hd
    simp [compares_iff.mp hd]
  case noDelta =>
    intro hd
    have hnone : s.timeDelta = none :=
      Option.eq_none_iff_forall_ne_some.mpr fun d => mt compares_iff.mpr (hd d)
    simp [hnone]
  case baseline =>
    intro h
    simp [movesBaseline_iff.mpr h]
  case noBaseline =>
    intro h
    simp [mt movesBaseline_iff.mp h]
  case accCount | dropTimeCount | dropRangeCount | dropManualCount | frame => rfl

/-- Settles O24: the packet is decoded and held, and its push is that of the rules. -/
theorem decodePushPushesAPlausibleRecord : Obligations.DecodePushPushesAPlausibleRecord := by
  unfold Obligations.DecodePushPushesAPlausibleRecord
  intro s hp hq hlen hpass
  rw [← s.plausibility_eq_whyOf] at hpass
  obtain ⟨h, _⟩ | ⟨_, h, _⟩ | ⟨_, _, h, _⟩ | ⟨_, _, _, h, _⟩ | ⟨_, _, _, _, he⟩ :=
    execDecodePush_cases s
  · simp [hp] at h
  · exact absurd h hq
  · exact absurd hlen h
  · exact absurd hpass h
  · rw [decide_not]
    exact ⟨_, he, State.pushed_pushBody_succeed _⟩

/-! ### A run started in a pass -/

/-- The host's CMD write of a command is answered and runs it (30_encoding.md R113). -/
theorem handleEvent_issue {i : Instr} (h : i.WellFormed) (s : State) :
    handleEvent (issue i) s = exec i (s.respond ⟨none, false⟩) := by
  have ht : s.target 0x008#12 32 = some .cmd := target_of_exists (r := .cmd) trivial
  simp only [issue, commandWrite, handleEvent, memWrite, ht, writeByClass, Reg.accessClass,
    executeCommand, decode_encode h]

theorem handleEvents_endPassLine (s : State) :
    handleEvents endPassLine s =
      .next { s.respond ⟨none, false⟩ with passActive := false, result := .ok } := by
  simp only [endPassLine, handleEvents, handleEvent_issue (i := .filterEnd) rfl]
  rfl

/-- A run over whole records, once the block is configured and the pass begun
(43_batchdecoder.md R213). -/
theorem hostRun_eq_runRecords {h : HostSettings} {file : List Byte} {es : List HostEvent}
    (hne : file ≠ []) (hlen : file.length % 42 = 0) (hes : h.configure s = some es)
    (ht : handleEvents (es ++ passLine) s = .next t) :
    hostRun h (some file) s =
      runRecords ((List.range (file.length / 42)).map (fileRecord file)) t [] := by
  simp only [hostRun, if_neg hne, if_neg (not_not.mpr hlen), hes, ht]

/-- Settles O56: the FILTER_END is the first access of the run in the pass, and the accesses after
it are those of the other run. -/
theorem runEndsAnOpenPassFirst : Obligations.RunEndsAnOpenPassFirst := by
  unfold Obligations.RunEndsAnOpenPassFirst
  intro h file s t hp hne hlen hfits ht
  obtain ⟨writes, hw⟩ := Option.ne_none_iff_exists'.mp hfits
  obtain ⟨u, hu⟩ := handleEvents_next (writes ++ passLine) t
  have hs : h.configure s = some (endPassLine ++ writes) := by
    simp [HostSettings.configure, hw, hp]
  have htconf : h.configure t = some writes := by
    cases ht.symm.trans (handleEvents_endPassLine s)
    simp [HostSettings.configure, hw]
  have hrun : handleEvents (endPassLine ++ writes ++ passLine) s = .next u := by
    rw [List.append_assoc, handleEvents_append (es := endPassLine) ht, hu]
  rw [hostRun_eq_runRecords hne hlen hs hrun, hostRun_eq_runRecords hne hlen htconf hu]

end Sys2Proof.Machine
end

section
/-! SUPPORT. The filter pipeline's commands: a pass begun and ended, the push and its ends, what the
time stage lets pass, what a push depends on, and what a pass locks (44_filterpipeline.md R231 to
R258). -/

namespace Sys2Proof.Machine

variable {s t : State}

/-! ### The ends of a pass and of a push -/

/-- Settles O25: the record of the rule is that of the command. -/
theorem filterBeginStartsAFreshPass : Obligations.FilterBeginStartsAFreshPass := by
  unfold Obligations.FilterBeginStartsAFreshPass
  intro s
  rfl

/-- Settles O26: the record of the rule is that of the command. -/
theorem filterEndOnlyEndsThePass : Obligations.FilterEndOnlyEndsThePass := by
  unfold Obligations.FilterEndOnlyEndsThePass
  intro s
  rfl

/-- Settles O27, by the four ends of FILTER_PUSH. -/
theorem filterPushGivesTheVerdictOrEndsWithItsCode :
    Obligations.FilterPushGivesTheVerdictOrEndsWithItsCode := by
  unfold Obligations.FilterPushGivesTheVerdictOrEndsWithItsCode
  intro s
  obtain ⟨hp, he⟩ | ⟨hp, hv, he⟩ | ⟨hp, hv, hu, hq, he⟩ | ⟨hp, hv, hu, hq, he⟩ :=
    execFilterPush_cases s
  · exact ⟨fun _ => he, by simp [hp], by simp [hp], by simp [hp]⟩
  · refine ⟨by simp [hp], fun _ _ => he, ?_, ?_⟩ <;> intro _ hv' hu' <;> simp [hv', hu'] at hv
  · exact ⟨by simp [hp], by simp [hv, hu], fun _ _ _ _ => he, fun _ _ _ h => absurd hq h⟩
  · exact ⟨by simp [hp], by simp [hv, hu], fun _ _ _ h => absurd h hq,
      fun _ _ _ _ => ⟨_, he, s.pushed_pushBody_succeed⟩⟩

/-! ### The time stage -/

/-- Without a comparison the time stage drops nothing and LAST_DELTA is 0
(44_filterpipeline.md R242). -/
theorem pushed_without_comparison (h : Terms.Pushed s t)
    (hnone : ∀ d, ¬ Terms.Compares s d) : t.verdict ≠ .dropTime ∧ t.lastDelta = 0#32 := by
  refine ⟨mt h.dropTime.mp ?_, h.noDelta hnone⟩
  rintro ⟨d, hd, _⟩
  exact hnone d hd

/-- A repeated time is compared as Δ = 0 (44_filterpipeline.md R243). -/
theorem delta_eq_zero_of_repeated {d : Int} (hd : Terms.Compares s d)
    (ht : s.pkt[0].toNat = s.prevTime.toNat) : d = 0 := by
  obtain ⟨_, _, ⟨_, rfl⟩ | ⟨hneg, _⟩⟩ := hd <;> omega

/-- Settles O28, by the push of the rules. -/
theorem timeStageConsequences : Obligations.TimeStageConsequences := by
  unfold Obligations.TimeStageConsequences
  intro s hp hv hu hq
  have hpush := s.pushed_pushBody_succeed
  refine ⟨_, exec_filterPush_of_valid hp hv hu hq, ?_, ?_, ?_, ?_⟩
  · intro hbase
    exact pushed_without_comparison hpush fun _ ⟨_, hon, _⟩ => by simp [hbase] at hon
  · intro hwrap hlimit
    refine mt hpush.dropTime.mp ?_
    rintro ⟨d, _, ⟨hon, _⟩ | ⟨_, hoff⟩⟩
    · simp [hlimit] at hon
    · simp [hwrap] at hoff
  · intro hrepeat hlimit
    refine mt hpush.dropTime.mp ?_
    rintro ⟨d, hd, hdrop⟩
    obtain rfl := delta_eq_zero_of_repeated hd hrepeat
    obtain ⟨hon, hneg⟩ | ⟨hlt, _⟩ := hdrop
    · obtain hoff | hpos := hlimit
      · simp [hoff] at hon
      · omega
    · omega
  · intro hoff
    have hnot : ¬ s.ctrl[0] = true := by simp [hoff]
    obtain ⟨hverdict, hdelta⟩ := pushed_without_comparison hpush fun _ ⟨hon, _⟩ => hnot hon
    exact ⟨hverdict, hdelta, hpush.noBaseline fun ⟨hon, _⟩ => hnot hon⟩

/-- PKT0 is a 24-bit time and so is PREV_TIME, so Δ is inside (−2^24, 2^24)
(44_filterpipeline.md R244). -/
theorem delta_bounds {d : Int} (hpkt : s.pkt[0].toNat < 2 ^ 24) (hd : Terms.Compares s d) :
    -2 ^ 24 < d ∧ d < 2 ^ 24 ∧ (s.ctrl[3] = true → 0 ≤ d) := by
  have hprev := s.prevTime.isLt
  obtain ⟨_, _, ⟨hpos | hoff, rfl⟩ | ⟨hneg, _, rfl⟩⟩ := hd
  · exact ⟨by omega, by omega, fun _ => hpos⟩
  · exact ⟨by omega, by omega, fun hon => by simp [hoff] at hon⟩
  · exact ⟨by omega, by omega, fun _ => by omega⟩

/-- Settles O29: LAST_DELTA holds Δ exactly, or 0 without a comparison. -/
theorem timeDifferenceNeverWraps : Obligations.TimeDifferenceNeverWraps := by
  unfold Obligations.TimeDifferenceNeverWraps
  intro s t hinv hp hv hu hq ht
  cases (exec_filterPush_of_valid hp hv hu hq).symm.trans ht
  have hpush := s.pushed_pushBody_succeed
  by_cases hd : ∃ d, Terms.Compares s d
  · obtain ⟨d, hd⟩ := hd
    have hpkt : s.pkt[0].toNat < 2 ^ 24 := hinv.fields 0
    obtain ⟨hlo, hhi, hwrap⟩ := delta_bounds hpkt hd
    have hheld : (u32 d).toInt = d := toInt_u32 (by omega) (by omega)
    rw [hpush.delta d hd, hheld]
    exact ⟨hlo, hhi, hwrap⟩
  · rw [hpush.noDelta (not_exists.mp hd)]
    exact ⟨by decide, by decide, fun _ => le_rfl⟩

/-! ### What a push depends on -/

/-- What the stages and the baseline of a push read (44_filterpipeline.md R256). -/
structure State.SamePush (s t : State) : Prop where
  pkt : s.pkt = t.pkt
  seqIdx : s.seqIdx = t.seqIdx
  filterState : s.filterState = t.filterState
  config : s.config = t.config
  prevValid : s.prevValid = t.prevValid
  prevTime : s.prevTime = t.prevTime

namespace State.SamePush

variable (h : s.SamePush t)
include h

theorem ctrl : s.ctrl = t.ctrl := congrArg FilterState.ctrl h.filterState

theorem timeDelta : s.timeDelta = t.timeDelta := by
  refine Option.ext fun d => ?_
  simp only [← compares_iff, Terms.Compares, h.ctrl, h.pkt, h.prevValid, h.prevTime]

theorem timeFails : s.timeFails = t.timeFails := by
  have hlimit : s.maxJump = t.maxJump := congrArg FilterState.maxJump h.filterState
  simp only [State.timeFails, State.maxJumpEn, State.allowWrap, h.timeDelta, h.ctrl, hlimit]

theorem rangeFails : s.rangeFails = t.rangeFails := by
  have hchan : s.chan = t.chan := congrArg FilterState.chan h.filterState
  simp only [State.rangeFails, State.rangeEn, State.chanValue, h.ctrl, h.pkt, hchan]

theorem manualFails : s.manualFails = t.manualFails := by
  have hcam : s.cam = t.cam := congrArg FilterState.cam h.filterState
  simp only [State.manualFails, State.manualEn, h.ctrl, h.seqIdx, h.config, hcam]

theorem pushVerdict : s.pushVerdict = t.pushVerdict := by
  simp only [State.pushVerdict, h.timeFails, h.rangeFails, h.manualFails]

theorem movesBaseline : s.movesBaseline = t.movesBaseline := by
  simp only [State.movesBaseline, State.timeEn, h.ctrl, h.timeFails, h.pushVerdict, h.config]

end State.SamePush

/-- Settles O30: each part of the push reads only what the two states share. -/
theorem verdictDependsOnlyOnThePushAndItsPass :
    Obligations.VerdictDependsOnlyOnThePushAndItsPass := by
  unfold Obligations.VerdictDependsOnlyOnThePushAndItsPass
  intro s t hpkt hseq hfilter hconfig hbase htime hp hp' hv hv' hu hu' hq
  have h : s.SamePush t := ⟨hpkt, hseq, hfilter, hconfig, hbase, htime⟩
  refine ⟨_, _, exec_filterPush_of_valid hp hv hu hq,
    exec_filterPush_of_valid hp' hv' hu' (hseq ▸ hq), ?_⟩
  simp [State.pushBody_eq, h.pushVerdict, h.movesBaseline, h.timeDelta, hpkt, hseq, hbase, htime]

/-- The same registers in a block built with baseline policy b (00_scope.md R11). -/
def State.withPolicy (s : State) (b : Bool) : State :=
  { s with config := ⟨s.config.nExcl, b⟩ }

@[simp] theorem State.pushBody_config (s : State) : s.pushBody.config = s.config := by
  rw [State.pushBody_eq]

/-- The policy is no part of the verdict (44_filterpipeline.md R235). -/
theorem State.withPolicy_pushVerdict (s : State) (b : Bool) :
    (s.withPolicy b).pushVerdict = s.pushVerdict := rfl

/-- A packet that fails the time stage never moves the baseline and an accepted one always does, so
the policy decides only late drops (44_filterpipeline.md R247). -/
theorem State.withPolicy_movesBaseline (b : Bool) (hr : s.pushVerdict ≠ .dropRange)
    (hm : s.pushVerdict ≠ .dropManual) :
    (s.withPolicy b).movesBaseline = s.movesBaseline := by
  have htime : (s.withPolicy b).timeFails = s.timeFails := rfl
  have hen : (s.withPolicy b).timeEn = s.timeEn := rfl
  rw [State.movesBaseline, State.movesBaseline, State.withPolicy_pushVerdict, htime, hen]
  obtain ⟨ht, _⟩ | ⟨_, _, h⟩ | ⟨_, _, _, h⟩ | ⟨_, _, _, h⟩ := s.pushVerdict_cases
  · simp [ht]
  · exact absurd h hr
  · exact absurd h hm
  · simp [h]

theorem State.withPolicy_pushBody (b : Bool) (hr : s.pushVerdict ≠ .dropRange)
    (hm : s.pushVerdict ≠ .dropManual) :
    (s.withPolicy b).pushBody = s.pushBody.withPolicy b := by
  rw [State.pushBody_eq, State.pushBody_eq, State.withPolicy_movesBaseline b hr hm]
  rfl

/-- Settles O31: a push that ends OK ran, and its baseline moves alike under both policies. -/
theorem baselinePolicyMattersOnlyForLateDrops :
    Obligations.BaselinePolicyMattersOnlyForLateDrops := by
  unfold Obligations.BaselinePolicyMattersOnlyForLateDrops
  intro s t ht hok hr hm b
  obtain ⟨_, he⟩ | ⟨_, _, he⟩ | ⟨_, _, _, _, he⟩ | ⟨hp, hv, hu, hq, he⟩ :=
    execFilterPush_cases s <;> cases he.symm.trans ht
  · simp at hok
  · simp at hok
  · simp at hok
  · simp only [State.pushBody_eq, State.succeed_verdict] at hr hm
    have hrun : exec .filterPush (s.withPolicy b) = .next (s.withPolicy b).pushBody.succeed :=
      exec_filterPush_of_valid hp hv hu hq
    rw [State.withPolicy_pushBody b hr hm] at hrun
    simp only [State.withPolicy, State.pushBody_config] at hrun
    exact hrun

/-! ### The locked configuration -/

@[simp] theorem State.pushBody_filterState (s : State) :
    s.pushBody.filterState = s.filterState := by
  rw [State.pushBody_eq]
  rfl

/-- A register of class RW is no part of the filter configuration (10_state.md R58). -/
theorem State.writeReg_rw_filterState {r : Reg} (hr : r.accessClass = .rw) (v : Word) :
    (s.writeReg r v).filterState = s.filterState := by
  cases r with
  | rlen | sxIn | vlimPress | vlimLat | vlimLon | vlimTemp | rbuf => rfl
  | _ => cases hr

/-- A command that leaves a pass active keeps the configuration: only SOFT_RESET changes it, and
that ends the pass (44_filterpipeline.md R232). -/
theorem Effect.filterState {i : Instr} (h : Effect s i t) (hp : t.passActive = true) :
    t.filterState = s.filterState := by
  cases h with
  | softReset => simp at hp
  | pushed => exact s.pushBody_filterState
  | heldAndPushed => exact State.pushBody_filterState _
  | _ => rfl

/-- Settles O32: a step in a pass writes no locked register, and no command that keeps the pass
changes one. -/
theorem configurationIsFixedDuringAPass : Obligations.ConfigurationIsFixedDuringAPass := by
  unfold Obligations.ConfigurationIsFixedDuringAPass
  intro s t hs hp hp'
  cases step_cases hs with
  | reset => simp at hp'
  | write rest a w v r _ _ hc =>
    obtain hc | ⟨_, hno⟩ := hc
    · exact State.writeReg_rw_filterState hc v
    · simp [hp] at hno
  | command rest v i _ _ _ he => exact (exec_effect he).filterState hp'
  | _ => rfl

end Sys2Proof.Machine
end

section
/-! SUPPORT. The host's values: merging the ranges of a drop list, the exclusion set of its tokens,
and the integer bounds of a float (44_filterpipeline.md R251 to R254). -/

namespace Sys2Proof.Machine

/-! ### Merging -/

/-- Position i lies in one of the ranges. -/
def Covers (ranges : List (Nat × Nat)) (i : Nat) : Prop := ∃ r ∈ ranges, r.1 ≤ i ∧ i ≤ r.2

theorem covers_cons {r : Nat × Nat} {ranges : List (Nat × Nat)} {i : Nat} :
    Covers (r :: ranges) i ↔ (r.1 ≤ i ∧ i ≤ r.2) ∨ Covers ranges i := by
  simp only [Covers, List.exists_mem_cons_iff]

/-- The order in which ranges are merged: by lower end (44_filterpipeline.md R254). -/
abbrev StartsBefore (q r : Nat × Nat) : Prop := q.1 ≤ r.1

/-- Inserting the ranges one by one is the library's insertion sort by lower end. -/
theorem foldr_insertRange (ranges : List (Nat × Nat)) :
    ranges.foldr insertRange [] = ranges.insertionSort StartsBefore := by
  have hinsert (r : Nat × Nat) (qs : List (Nat × Nat)) :
      insertRange r qs = qs.orderedInsert StartsBefore r := by
    induction qs with
    | nil => rfl
    | cons q qs ih => rw [insertRange, List.orderedInsert_cons, ih]
  rw [List.insertionSort, funext₂ hinsert]

theorem pairwise_foldr_insertRange (ranges : List (Nat × Nat)) :
    (ranges.foldr insertRange []).Pairwise StartsBefore := by
  have htotal : Std.Total StartsBefore := ⟨fun q r => Nat.le_total q.1 r.1⟩
  have htrans : IsTrans (Nat × Nat) StartsBefore := ⟨fun _ _ _ => Nat.le_trans⟩
  rw [foldr_insertRange]
  exact List.pairwise_insertionSort StartsBefore ranges

theorem mem_foldr_insertRange {ranges : List (Nat × Nat)} {r : Nat × Nat} :
    r ∈ ranges.foldr insertRange [] ↔ r ∈ ranges := by
  rw [foldr_insertRange, List.mem_insertionSort]

/-- Merging a sorted list keeps the set: two ranges that overlap or touch have one range as their
union (44_filterpipeline.md R254). -/
theorem covers_mergeFrom {cur : Nat × Nat} {qs : List (Nat × Nat)} {i : Nat}
    (h : (cur :: qs).Pairwise StartsBefore) :
    Covers (mergeFrom cur qs) i ↔ Covers (cur :: qs) i := by
  induction qs generalizing cur with
  | nil => rfl
  | cons q qs ih =>
    obtain ⟨hcur, htail⟩ := List.pairwise_cons.mp h
    have hle : cur.1 ≤ q.1 := hcur q List.mem_cons_self
    rw [mergeFrom]
    split_ifs with htouch
    · have hsorted : ((cur.1, max cur.2 q.2) :: qs).Pairwise StartsBefore :=
        List.pairwise_cons.mpr ⟨fun r hr => hcur r (List.mem_cons_of_mem q hr), htail.of_cons⟩
      rw [ih hsorted]
      simp only [covers_cons, ← or_assoc]
      refine or_congr_left ?_
      omega
    · rw [covers_cons, ih htail, covers_cons (r := cur)]

theorem covers_mergeRanges (ranges : List (Nat × Nat)) (i : Nat) :
    Covers (mergeRanges ranges) i ↔ Covers ranges i := by
  have hsorted := pairwise_foldr_insertRange ranges
  have hmem : Covers (ranges.foldr insertRange []) i ↔ Covers ranges i := by
    simp only [Covers, mem_foldr_insertRange]
  rw [mergeRanges, ← hmem]
  cases hs : ranges.foldr insertRange [] with
  | nil => rfl
  | cons q qs => exact covers_mergeFrom (hs ▸ hsorted)

/-- Settles O49: the ranges are sorted, then merged one after another. -/
theorem mergingKeepsTheExclusionSet : Obligations.MergingKeepsTheExclusionSet := by
  unfold Obligations.MergingKeepsTheExclusionSet
  exact covers_mergeRanges

/-- Merging makes no empty range. -/
theorem mergeFrom_nonempty {cur : Nat × Nat} {qs : List (Nat × Nat)}
    (h : ∀ r ∈ cur :: qs, r.1 ≤ r.2) : ∀ r ∈ mergeFrom cur qs, r.1 ≤ r.2 := by
  induction qs generalizing cur with
  | nil => exact h
  | cons q qs ih =>
    simp only [List.forall_mem_cons] at h ih
    obtain ⟨hcur, hq, hqs⟩ := h
    rw [mergeFrom]
    split_ifs
    · exact ih ⟨le_max_of_le_left hcur, hqs⟩
    · exact List.forall_mem_cons.mpr ⟨hcur, ih ⟨hq, hqs⟩⟩

theorem mergeRanges_nonempty {ranges : List (Nat × Nat)} (h : ∀ r ∈ ranges, r.1 ≤ r.2) :
    ∀ r ∈ mergeRanges ranges, r.1 ≤ r.2 := by
  have hsorted : ∀ r ∈ ranges.foldr insertRange [], r.1 ≤ r.2 := fun r hr =>
    h r (mem_foldr_insertRange.mp hr)
  rw [mergeRanges]
  cases hs : ranges.foldr insertRange [] with
  | nil => simp
  | cons q qs => exact mergeFrom_nonempty (hs ▸ hsorted)

/-! ### The exclusion set -/

/-- The range of a token: up to the last position, and never empty (44_filterpipeline.md R253). -/
theorem tokenRange_eq_some_iff {token : DropToken} {r : Nat × Nat} :
    tokenRange token = some r ↔ ∃ lo hi, token = .range lo hi ∧ lo ≤ hi ∧ lo ≤ lastPosition ∧
      r = (lo, min hi lastPosition) := by
  cases token with
  | range lo hi => simp [tokenRange, and_assoc, eq_comm (a := r)]
  | _ => simp [tokenRange]

theorem covers_exclusionRanges (text : List Char) (i : Nat) :
    Covers (exclusionRanges text) i ↔ i ≤ lastPosition ∧
      ∃ lo hi, DropToken.range lo hi ∈ dropTokens text ∧ lo ≤ i ∧ i ≤ hi := by
  rw [exclusionRanges, covers_mergeRanges]
  simp only [Covers, List.mem_filterMap, tokenRange_eq_some_iff]
  constructor
  · rintro ⟨_, ⟨_, htoken, lo, hi, rfl, _, _, rfl⟩, hlo, hhi⟩
    obtain ⟨hihi, hilast⟩ := le_min_iff.mp hhi
    exact ⟨hilast, lo, hi, htoken, hlo, hihi⟩
  · rintro ⟨hilast, lo, hi, htoken, hlo, hhi⟩
    exact ⟨_, ⟨_, htoken, lo, hi, rfl, hlo.trans hhi, hlo.trans hilast, rfl⟩, hlo,
      le_min hhi hilast⟩

/-- Settles O50: merging keeps the set, and each token's range is clamped at the last position. -/
theorem exclusionSetIsTheUnionOfTheTokens : Obligations.ExclusionSetIsTheUnionOfTheTokens := by
  unfold Obligations.ExclusionSetIsTheUnionOfTheTokens
  exact covers_exclusionRanges

/-- A merged range is not empty and ends at a position a push can have
(44_filterpipeline.md R253). -/
theorem exclusionRanges_bounds {text : List Char} {r : Nat × Nat} (h : r ∈ exclusionRanges text) :
    r.1 ≤ r.2 ∧ r.2 ≤ lastPosition := by
  have hne : r.1 ≤ r.2 := by
    refine mergeRanges_nonempty ?_ r h
    intro q hq
    obtain ⟨token, _, ht⟩ := List.mem_filterMap.mp hq
    obtain ⟨lo, hi, _, hle, hlast, rfl⟩ := tokenRange_eq_some_iff.mp ht
    exact le_min hle hlast
  obtain ⟨hlast, _⟩ := (covers_exclusionRanges text r.2).mp ⟨r, h, hne, le_rfl⟩
  exact ⟨hne, hlast⟩

/-! ### Float bounds -/

theorem clampS32_bounds (x : Int) : -2 ^ 31 ≤ clampS32 x ∧ clampS32 x < 2 ^ 31 := by
  rw [clampS32]
  omega

theorem toInt_u32_clampS32 (x : Int) : (u32 (clampS32 x)).toInt = clampS32 x :=
  toInt_u32 (clampS32_bounds x).1 (clampS32_bounds x).2

/-- Settles O51: a value of fewer than 31 bits is on the same side of a bound and of its ceiling or
floor, and the clamp moves no bound past such a value. -/
theorem finiteBoundConversionIsExact : Obligations.FiniteBoundConversionIsExact := by
  unfold Obligations.FiniteBoundConversionIsExact
  intro q v hv
  obtain ⟨hlo, hhi⟩ := abs_lt.mp hv
  have hmin : (v : Rat) < q ↔ v < q.ceil := Rat.lt_ceil_iff.symm
  have hmax : q < (v : Rat) ↔ q.floor < v := Rat.floor_lt_iff.symm
  refine ⟨_, _, rfl, rfl, ?_, ?_, toInt_u32_clampS32 _, toInt_u32_clampS32 _⟩
  · rw [hmin, clampS32]
    omega
  · rw [hmax, clampS32]
    omega

end Sys2Proof.Machine
end

section
/-! SUPPORT. The host's configuration: what a program of register writes leaves outside a pass, the
value the settings give each register, and what the registers then say (44_filterpipeline.md R251,
R254, R255). -/

namespace Sys2Proof.Machine

variable {s t : State} {h : HostSettings}

/-! ### A program of register writes -/

/-- Two writes to registers that exist are equal only as writes of one register. -/
theorem reg_eq_of_wr_eq {r q : Reg} {v w : Word} (hr : Terms.Exists s.config r)
    (hq : Terms.Exists s.config q) (heq : wr r v = wr q w) : r = q := by
  have haddr : BitVec.ofNat 12 r.offset = BitVec.ofNat 12 q.offset := by
    injection heq
  have htarget := target_of_exists hr
  rw [haddr, target_of_exists hq] at htarget
  exact (Option.some.inj htarget).symm

@[simp] theorem State.writeReg_passActive (s : State) (r : Reg) (v : Word) :
    (s.writeReg r v).passActive = s.passActive := by
  cases r <;> rfl

/-- Each value of f is for a register of the filter configuration that exists, and fits it. -/
def SetsLocked (config : Config) (f : Reg → Option Word) : Prop :=
  ∀ r v, f r = some v →
    Terms.Exists config r ∧ r.accessClass = .lk ∧ v.toNat < 2 ^ r.width

/-- Outside a pass a program of writes that gives each register one value leaves it there, in
whatever order the writes come (10_state.md R58, 44_filterpipeline.md R255). -/
theorem handleEvents_sets {f : Reg → Option Word} {es : List HostEvent}
    (hf : SetsLocked s.config f) (hp : s.passActive = false)
    (hes : ∀ e ∈ es, ∃ r v, f r = some v ∧ e = wr r v) :
    ∃ t, handleEvents es s = .next t ∧ t.passActive = false ∧ t.err = s.err ∧
      t.config = s.config ∧
      ∀ r v, f r = some v → wr r v ∈ es ∨ s.readReg r = v → t.readReg r = v := by
  induction es generalizing s with
  | nil => exact ⟨s, rfl, hp, rfl, rfl, fun r v _ hset => by simpa using hset⟩
  | cons e es ih =>
    obtain ⟨⟨q, w, hq, rfl⟩, hrest⟩ := List.forall_mem_cons.mp hes
    obtain ⟨hqexists, hqlk, hqfits⟩ := hf q w hq
    obtain ⟨t, ht, htp, hterr, htconfig, htread⟩ :=
      ih (s := (s.respond ⟨none, false⟩).writeReg q w) (by simpa using hf) (by simpa using hp) hrest
    refine ⟨t, ?_, htp, by simpa using hterr, by simpa using htconfig, ?_⟩
    · simp only [handleEvents, handleEvent_wr w hqexists (.inr ⟨hqlk, hp⟩), ht]
    · intro r v hr hset
      refine htread r v hr ?_
      by_cases hrq : r = q
      · subst hrq
        cases hr.symm.trans hq
        right
        rw [readReg_writeReg_same _ _ (.inr hqlk), Nat.mod_eq_of_lt hqfits, BitVec.ofNat_toNat,
          BitVec.setWidth_eq]
      · have hne : wr r v ≠ wr q w := fun heq =>
          hrq (reg_eq_of_wr_eq (hf r v hr).1 hqexists heq)
        have hsame : (s.respond ⟨none, false⟩).readReg r = s.readReg r := by cases r <;> rfl
        rw [readReg_writeReg_ne _ _ hrq, hsame]
        simpa [hne] using hset

/-- The accesses that end an open pass leave none, and change no error bit (70_reset_and_hazards.md
R344). -/
theorem handleEvents_endOpenPass (s : State) :
    ∃ t, handleEvents (if s.passActive then endPassLine else []) s = .next t ∧
      t.passActive = false ∧ t.err = s.err ∧ t.config = s.config := by
  cases hp : s.passActive with
  | true => exact ⟨_, handleEvents_endPassLine s, rfl, rfl, rfl⟩
  | false => exact ⟨s, rfl, hp, rfl, rfl⟩

/-! ### The value of each register -/

/-- The two enables of channel c (44_filterpipeline.md R251). -/
def HostSettings.enables (h : HostSettings) (c : Fin 18) : BitVec 2 :=
  BitVec.ofBool (maxBoundOf h.chanMax[c]).isSome ++ BitVec.ofBool (minBoundOf h.chanMin[c]).isSome

/-- The merged range that CAM entry k takes (44_filterpipeline.md R254). -/
def HostSettings.entry (h : HostSettings) (k : Fin 64) : Option (Nat × Nat) :=
  (exclusionRanges h.dropPackets)[k.val]?

/-- The value the settings give a register, none where the host leaves it (44_filterpipeline.md
R255). -/
def HostSettings.setting (h : HostSettings) (nExcl : Nat) : Reg → Option Word
  | .ctrl => some h.ctrlWord
  | .maxJump => h.maxJumpMs.map fun m => u32 (clampS32 m)
  | .rmin c => (minBoundOf h.chanMin[c]).map u32
  | .rmax c => (maxBoundOf h.chanMax[c]).map u32
  | .rctl c => some ((h.enables c).setWidth 32)
  | .ectl k => if k.val < nExcl then some (if (h.entry k).isSome then 1#32 else 0#32) else none
  | .elo k => if k.val < nExcl then (h.entry k).map fun r => BitVec.ofNat 32 r.1 else none
  | .ehi k => if k.val < nExcl then (h.entry k).map fun r => BitVec.ofNat 32 r.2 else none
  | _ => none

theorem HostSettings.setsLocked (h : HostSettings) (config : Config) :
    SetsLocked config (h.setting config.nExcl) := by
  intro r v hv
  cases r with
  | ctrl =>
    cases hv
    refine ⟨trivial, rfl, ?_⟩
    rw [HostSettings.ctrlWord, BitVec.toNat_setWidth_of_le (by decide)]
    exact BitVec.isLt _
  | rctl c =>
    cases hv
    refine ⟨trivial, rfl, ?_⟩
    rw [BitVec.toNat_setWidth_of_le (by decide)]
    exact BitVec.isLt _
  | ectl k =>
    simp only [HostSettings.setting, Option.ite_none_right_eq_some, Option.some.injEq] at hv
    obtain ⟨hk, rfl⟩ := hv
    refine ⟨hk, rfl, ?_⟩
    change _ < 2 ^ 1
    split_ifs <;> decide
  | elo k | ehi k =>
    simp only [HostSettings.setting, Option.ite_none_right_eq_some] at hv
    exact ⟨hv.1, rfl, v.isLt⟩
  | maxJump | rmin | rmax => exact ⟨trivial, rfl, v.isLt⟩
  | _ => cases hv

section
variable {c : Fin 18} {config : Config} {e : HostEvent} {es : List HostEvent}

theorem mem_boundWrites : e ∈ h.boundWrites c ↔
    (∃ x, minBoundOf h.chanMin[c] = some x ∧ e = wr (.rmin c) (u32 x)) ∨
      (∃ x, maxBoundOf h.chanMax[c] = some x ∧ e = wr (.rmax c) (u32 x)) ∨
      e = wr (.rctl c) ((h.enables c).setWidth 32) := by
  simp only [HostSettings.boundWrites, List.mem_append, Option.mem_toList, Option.map_eq_some_iff,
    List.mem_singleton, or_assoc, eq_comm (b := e)]
  rfl

/-- CAM entry k gets its range, if it takes one, and its V bit (44_filterpipeline.md R254). -/
theorem mem_camWrites (hes : camWrites config.nExcl (exclusionRanges h.dropPackets) = some es) :
    e ∈ es ↔ ∃ k : Fin 64, k.val < config.nExcl ∧
      (e = wr (.ectl k) (if (h.entry k).isSome then 1#32 else 0#32) ∨
        ∃ r, h.entry k = some r ∧
          (e = wr (.elo k) (BitVec.ofNat 32 r.1) ∨ e = wr (.ehi k) (BitVec.ofNat 32 r.2))) := by
  rw [(camWrites_eq_some hes).2]
  refine exists_congr fun k => and_congr_right fun _ => ?_
  rw [← HostSettings.entry]
  cases h.entry k with
  | none => simp
  | some r =>
    simp only [excl, Option.some.injEq, exists_eq_left', List.mem_cons, List.not_mem_nil, or_false,
      reduceCtorEq, false_and, Option.isSome_some, if_true]
    tauto

/-- The configuration writes are exactly the values of the settings (44_filterpipeline.md R255). -/
theorem mem_configWrites (hes : h.configWrites config = some es) :
    e ∈ es ↔ ∃ r v, h.setting config.nExcl r = some v ∧ e = wr r v := by
  obtain ⟨cam, hcam, rfl⟩ := Option.map_eq_some_iff.mp hes
  simp only [List.mem_append, List.mem_singleton, Option.mem_toList, Option.map_eq_some_iff,
    List.mem_flatMap, List.mem_finRange, true_and, mem_boundWrites, mem_camWrites hcam]
  constructor
  · rintro (((rfl | ⟨m, hm, rfl⟩) | ⟨c, ⟨x, hx, rfl⟩ | ⟨x, hx, rfl⟩ | rfl⟩) |
      ⟨k, hk, rfl | ⟨r, hr, rfl | rfl⟩⟩)
    · exact ⟨.ctrl, _, rfl, rfl⟩
    · exact ⟨.maxJump, _, Option.map_eq_some_iff.mpr ⟨m, hm, rfl⟩, rfl⟩
    · exact ⟨.rmin c, _, Option.map_eq_some_iff.mpr ⟨x, hx, rfl⟩, rfl⟩
    · exact ⟨.rmax c, _, Option.map_eq_some_iff.mpr ⟨x, hx, rfl⟩, rfl⟩
    · exact ⟨.rctl c, _, rfl, rfl⟩
    · exact ⟨.ectl k, _, if_pos hk, rfl⟩
    · exact ⟨.elo k, _, by simp [HostSettings.setting, hk, hr], rfl⟩
    · exact ⟨.ehi k, _, by simp [HostSettings.setting, hk, hr], rfl⟩
  · rintro ⟨r, v, hv, rfl⟩
    cases r with
    | ctrl => cases hv; exact .inl (.inl (.inl rfl))
    | maxJump =>
      obtain ⟨m, hm, rfl⟩ := Option.map_eq_some_iff.mp hv
      exact .inl (.inl (.inr ⟨m, hm, rfl⟩))
    | rmin c =>
      obtain ⟨x, hx, rfl⟩ := Option.map_eq_some_iff.mp hv
      exact .inl (.inr ⟨c, .inl ⟨x, hx, rfl⟩⟩)
    | rmax c =>
      obtain ⟨x, hx, rfl⟩ := Option.map_eq_some_iff.mp hv
      exact .inl (.inr ⟨c, .inr (.inl ⟨x, hx, rfl⟩)⟩)
    | rctl c => cases hv; exact .inl (.inr ⟨c, .inr (.inr rfl)⟩)
    | ectl k =>
      obtain ⟨hk, ⟨⟩⟩ := Option.ite_none_right_eq_some.mp hv
      exact .inr ⟨k, hk, .inl rfl⟩
    | elo k =>
      obtain ⟨hk, hentry⟩ := Option.ite_none_right_eq_some.mp hv
      obtain ⟨r, hr, rfl⟩ := Option.map_eq_some_iff.mp hentry
      exact .inr ⟨k, hk, .inr ⟨r, hr, .inl rfl⟩⟩
    | ehi k =>
      obtain ⟨hk, hentry⟩ := Option.ite_none_right_eq_some.mp hv
      obtain ⟨r, hr, rfl⟩ := Option.map_eq_some_iff.mp hentry
      exact .inr ⟨k, hk, .inr ⟨r, hr, .inr rfl⟩⟩
    | _ => cases hv

end

/-- After the host's accesses no pass is active, no error bit changed, and each register of the
settings reads its value. -/
theorem handleEvents_configure {es : List HostEvent} (hes : h.configure s = some es) :
    ∃ t, handleEvents es s = .next t ∧ t.passActive = false ∧ t.err = s.err ∧
      t.config = s.config ∧ ∀ r v, h.setting s.config.nExcl r = some v → t.readReg r = v := by
  obtain ⟨writes, hw, rfl⟩ := Option.map_eq_some_iff.mp hes
  obtain ⟨u, hu, hup, huerr, huconfig⟩ := handleEvents_endOpenPass s
  obtain ⟨t, ht, htp, hterr, htconfig, htread⟩ :=
    handleEvents_sets (huconfig ▸ h.setsLocked s.config) hup fun _ => (mem_configWrites hw).mp
  refine ⟨t, (handleEvents_append hu writes).trans ht, htp, hterr.trans huerr,
    htconfig.trans huconfig, fun r v hv => htread r v hv (.inl ?_)⟩
  exact (mem_configWrites hw).mpr ⟨r, v, hv, rfl⟩

/-! ### What the registers then say -/

/-- The settings are in force in state t: each register they give a value reads it (44_filterpipeline.md
R255). -/
def State.Reads (t : State) (h : HostSettings) : Prop :=
  ∀ r v, h.setting t.config.nExcl r = some v → t.readReg r = v

theorem eq_of_setWidth_eq {n : Nat} (hn : n ≤ 32) {x y : BitVec n}
    (hxy : x.setWidth 32 = y.setWidth 32) : x = y := by
  have hval := congrArg BitVec.toNat hxy
  rw [BitVec.toNat_setWidth_of_le hn, BitVec.toNat_setWidth_of_le hn] at hval
  exact BitVec.eq_of_toNat_eq hval

theorem getElem_of_eq_two_bools {x : BitVec 2} {b1 b0 : Bool}
    (hx : x = BitVec.ofBool b1 ++ BitVec.ofBool b0) : x[0] = b0 ∧ x[1] = b1 := by
  subst hx
  revert b1 b0
  decide

theorem getElem_of_eq_five_bools {x : BitVec 5} {b4 b3 b2 b1 b0 : Bool}
    (hx : x = BitVec.ofBool b4 ++ BitVec.ofBool b3 ++ BitVec.ofBool b2 ++ BitVec.ofBool b1 ++
      BitVec.ofBool b0) :
    x[0] = b0 ∧ x[1] = b1 ∧ x[2] = b2 ∧ x[3] = b3 ∧ x[4] = b4 := by
  subst hx
  revert b4 b3 b2 b1 b0
  decide

theorem any_isSome_iff {α : Type} (xs : Vector (Option α) 18) :
    xs.toList.any Option.isSome = true ↔ ∃ c : Fin 18, xs[c] ≠ none := by
  simp only [List.any_eq_true, Vector.mem_toList_iff, Vector.mem_iff_getElem,
    Option.isSome_iff_ne_none]
  constructor
  · rintro ⟨_, ⟨i, hi, rfl⟩, hne⟩
    exact ⟨⟨i, hi⟩, hne⟩
  · rintro ⟨c, hne⟩
    exact ⟨_, ⟨c.val, c.isLt, rfl⟩, hne⟩

theorem HostSettings.anyBound_iff (h : HostSettings) :
    h.anyBound = true ↔ ∃ c : Fin 18, h.chanMin[c] ≠ none ∨ h.chanMax[c] ≠ none := by
  rw [HostSettings.anyBound, Bool.or_eq_true, any_isSome_iff, any_isSome_iff, exists_or]

theorem exclusionRanges_ne_nil_iff (text : List Char) :
    exclusionRanges text ≠ [] ↔ ∃ i, Covers (exclusionRanges text) i := by
  constructor
  · intro hne
    obtain ⟨r, hr⟩ := List.exists_mem_of_ne_nil _ hne
    exact ⟨r.1, r, hr, le_rfl, (exclusionRanges_bounds hr).1⟩
  · rintro ⟨i, r, hr, _⟩
    exact List.ne_nil_of_mem hr

/-- Every converted bound is held exactly (44_filterpipeline.md R251). -/
theorem toInt_u32_minBoundOf {x : Option FloatVal} {lo : Int} (hlo : minBoundOf x = some lo) :
    (u32 lo).toInt = lo := by
  cases x with
  | none => cases hlo
  | some x =>
    cases x with
    | nan | negInf => cases hlo
    | posInf => cases hlo; decide
    | finite q => cases hlo; exact toInt_u32_clampS32 _

theorem toInt_u32_maxBoundOf {x : Option FloatVal} {hi : Int} (hhi : maxBoundOf x = some hi) :
    (u32 hi).toInt = hi := by
  cases x with
  | none => cases hhi
  | some x =>
    cases x with
    | nan | posInf => cases hhi
    | negInf => cases hhi; decide
    | finite q => cases hhi; exact toInt_u32_clampS32 _

/-- The ends of a merged range fit a register exactly (44_filterpipeline.md R253). -/
theorem toNat_range_ends {text : List Char} {r : Nat × Nat} (hr : r ∈ exclusionRanges text) :
    (BitVec.ofNat 32 r.1).toNat = r.1 ∧ (BitVec.ofNat 32 r.2).toNat = r.2 := by
  obtain ⟨hle, hlast⟩ := exclusionRanges_bounds hr
  have hlt : r.2 < 2 ^ 32 := hlast.trans_lt (by decide)
  simp only [BitVec.toNat_ofNat]
  exact ⟨Nat.mod_eq_of_lt (hle.trans_lt hlt), Nat.mod_eq_of_lt hlt⟩

namespace State.Reads

variable (ht : t.Reads h)
include ht

/-- The switches (44_filterpipeline.md R255). -/
theorem ctrl :
    (t.ctrl[0] = true ↔ h.maxJumpMs ≠ none ∨ h.allowWrap ≠ none) ∧
    (t.ctrl[1] = true ↔ ∃ c : Fin 18, h.chanMin[c] ≠ none ∨ h.chanMax[c] ≠ none) ∧
    (t.ctrl[2] = true ↔ ∃ i, Covers (exclusionRanges h.dropPackets) i) ∧
    (t.ctrl[3] = true ↔ h.allowWrap = some true) ∧
    (t.ctrl[4] = true ↔ h.maxJumpMs ≠ none) := by
  obtain ⟨htime, hrange, hmanual, hwrap, hlimit⟩ :=
    getElem_of_eq_five_bools (eq_of_setWidth_eq (by decide) (ht .ctrl _ rfl))
  have hgetD : h.allowWrap.getD false = true ↔ h.allowWrap = some true := by
    cases h.allowWrap <;> simp
  rw [htime, hrange, hmanual, hwrap, hlimit, ← exclusionRanges_ne_nil_iff, ← h.anyBound_iff, hgetD]
  simp [Option.isSome_iff_ne_none]

theorem maxJump {m : Int} (hm : h.maxJumpMs = some m) :
    t.maxJump.toInt = max (-2 ^ 31) (min m (2 ^ 31 - 1)) := by
  have hread : t.maxJump = u32 (clampS32 m) :=
    ht .maxJump _ (Option.map_eq_some_iff.mpr ⟨m, hm, rfl⟩)
  rw [hread, toInt_u32_clampS32, clampS32]

/-- The enables and bounds of a channel (44_filterpipeline.md R251). -/
theorem chan (c : Fin 18) :
    (t.chan[c].ctl[0] = true ↔ minBoundOf h.chanMin[c] ≠ none) ∧
    (t.chan[c].ctl[1] = true ↔ maxBoundOf h.chanMax[c] ≠ none) ∧
    (∀ lo, minBoundOf h.chanMin[c] = some lo → t.chan[c].min.toInt = lo) ∧
    (∀ hi, maxBoundOf h.chanMax[c] = some hi → t.chan[c].max.toInt = hi) := by
  obtain ⟨hmin, hmax⟩ := getElem_of_eq_two_bools
    (eq_of_setWidth_eq (by decide) (ht (.rctl c) _ rfl) : t.chan[c].ctl = h.enables c)
  refine ⟨?_, ?_, fun lo hlo => ?_, fun hi hhi => ?_⟩
  · rw [hmin, Option.isSome_iff_ne_none]
  · rw [hmax, Option.isSome_iff_ne_none]
  · have hread : t.chan[c].min = u32 lo :=
      ht (.rmin c) _ (Option.map_eq_some_iff.mpr ⟨lo, hlo, rfl⟩)
    rw [hread, toInt_u32_minBoundOf hlo]
  · have hread : t.chan[c].max = u32 hi :=
      ht (.rmax c) _ (Option.map_eq_some_iff.mpr ⟨hi, hhi, rfl⟩)
    rw [hread, toInt_u32_maxBoundOf hhi]

/-- An existing CAM entry excludes the positions of its range, or none (44_filterpipeline.md
R252, R254). -/
theorem camEntry {k : Fin 64} (hk : k.val < t.config.nExcl) (i : Nat) :
    (t.cam[k].ctl[0] = true ∧ t.cam[k].lo.toNat ≤ i ∧ i ≤ t.cam[k].hi.toNat) ↔
      ∃ r, h.entry k = some r ∧ r.1 ≤ i ∧ i ≤ r.2 := by
  have hctl : t.cam[k].ctl = if (h.entry k).isSome then 1#1 else 0#1 := by
    refine eq_of_setWidth_eq (by decide) ((ht (.ectl k) _ (if_pos hk)).trans ?_)
    split_ifs <;> rfl
  cases hr : h.entry k with
  | none =>
    rw [hctl, hr]
    simp
  | some r =>
    have hlo : t.cam[k].lo = BitVec.ofNat 32 r.1 :=
      ht (.elo k) _ (by simp [HostSettings.setting, hk, hr])
    have hhi : t.cam[k].hi = BitVec.ofNat 32 r.2 :=
      ht (.ehi k) _ (by simp [HostSettings.setting, hk, hr])
    obtain ⟨hlonat, hhinat⟩ := toNat_range_ends (List.mem_of_getElem? hr)
    rw [hctl, hlo, hhi, hlonat, hhinat, hr]
    simp

/-- The CAM excludes the exclusion set (44_filterpipeline.md R254). -/
theorem cam (hlegal : t.config.Legal)
    (hfits : (exclusionRanges h.dropPackets).length ≤ t.config.nExcl) (i : Nat) :
    (∃ k : Fin 64, k.val < t.config.nExcl ∧ t.cam[k].ctl[0] = true ∧
        t.cam[k].lo.toNat ≤ i ∧ i ≤ t.cam[k].hi.toNat) ↔
      Covers (exclusionRanges h.dropPackets) i := by
  constructor
  · rintro ⟨k, hk, hexcl⟩
    obtain ⟨r, hr, hcov⟩ := (ht.camEntry hk i).mp hexcl
    exact ⟨r, List.mem_of_getElem? hr, hcov⟩
  · rintro ⟨r, hr, hcov⟩
    obtain ⟨k, hlt, hget⟩ := List.mem_iff_getElem.mp hr
    have hk : k < t.config.nExcl := hlt.trans_le hfits
    refine ⟨⟨k, hk.trans_le hlegal.2⟩, hk, (ht.camEntry hk i).mpr ⟨r, ?_, hcov⟩⟩
    exact List.getElem?_eq_some_iff.mpr ⟨hlt, hget⟩

end State.Reads

/-- Settles O55: an open pass is ended, each write of the settings is permitted, and the registers
they leave say what the mapping says. -/
theorem configurationIsWrittenOutsideAPass : Obligations.ConfigurationIsWrittenOutsideAPass := by
  unfold Obligations.ConfigurationIsWrittenOutsideAPass
  intro h s es hlegal hes
  obtain ⟨t, ht, hp, herr, hconfig, hread⟩ := handleEvents_configure hes
  obtain ⟨cam, hcam, _⟩ := configure_eq_some hes
  obtain ⟨hfits, _⟩ := camWrites_eq_some hcam
  rw [← hconfig] at hlegal hfits hread
  have hreads : t.Reads h := hread
  obtain ⟨htime, hrange, hmanual, hwrap, hlimit⟩ := hreads.ctrl
  exact ⟨t, ht, hp, herr, htime, hrange, hmanual, hwrap, hlimit, fun _ => hreads.maxJump,
    hreads.chan, hreads.cam hlegal hfits⟩

end Sys2Proof.Machine
end

section
/-! SUPPORT. The control commands: what NOP answers, and the registers SOFT_RESET leaves
(45_control.md R270, R272). -/

namespace Sys2Proof.Machine

theorem exec_nop (s : State) : exec .nop s = .next s.succeed := rfl

/-- OK is itself the reset value of RESULT (10_state.md R62), so ending OK adds nothing to the
reset. -/
theorem State.succeed_softResetRegs (s : State) : s.softResetRegs.succeed = s.softResetRegs := rfl

theorem exec_softReset (s : State) : exec .softReset s = .next s.softResetRegs :=
  congrArg Host.Outcome.next s.succeed_softResetRegs

theorem readReg_softResetRegs (s : State) {r : Reg} (hr : ∀ w, r ≠ .rbuf w) :
    s.softResetRegs.readReg r = Terms.resetReading r :=
  (readReg_outside _ _ _ r).trans (readReg_resetWith _ _ hr)

/-- Settles O2: the command leaves a reset state around the old record, the parameters and the
outside world. -/
theorem softResetRestoresEveryRegisterButRbuf :
    Obligations.SoftResetRestoresEveryRegisterButRbuf := by
  unfold Obligations.SoftResetRestoresEveryRegisterButRbuf
  intro s
  exact ⟨s.softResetRegs, exec_softReset s, fun _ hr => readReg_softResetRegs s hr,
    s.softResetRegs_result, s.softResetRegs_rbuf, s.softResetRegs_bus, s.softResetRegs_config,
    s.softResetRegs_resets⟩

/-- Settles O1: ending OK is the one write of RESULT. -/
theorem nopOnlyWritesResultOk : Obligations.NopOnlyWritesResultOk := by
  unfold Obligations.NopOnlyWritesResultOk
  exact exec_nop

end Sys2Proof.Machine
end

section
/-! SUPPORT. One step of the block: it answers, takes the first event off, and keeps the parameters
(20_memory.md R72, 60_exceptions.md R305, R318). -/

namespace Sys2Proof.Machine

variable {s t : State}

@[simp] theorem State.pushBody_bus (s : State) : s.pushBody.bus = s.bus := by
  rw [State.pushBody_eq]

theorem Effect.bus {i : Instr} (h : Effect s i t) : t.bus = s.bus := by
  cases h with
  | pushed => exact s.pushBody_bus
  | heldAndPushed => exact State.pushBody_bus _
  | _ => rfl

theorem Effect.config {i : Instr} (h : Effect s i t) : t.config = s.config := by
  cases h with
  | pushed => exact s.pushBody_config
  | heldAndPushed => exact State.pushBody_config _
  | _ => rfl

/-- A step takes off the first event, if there is one (20_memory.md R72). -/
theorem Transition.pending (h : Transition s t) : t.bus.pending = s.bus.pending.tail := by
  cases h with
  | idle h => rw [h, List.tail_nil]
  | command _ _ _ _ h _ he => simp [(exec_effect he).bus, h]
  | reset _ h | read _ _ _ _ h | readError _ _ _ h | writeError _ _ _ _ h | write _ _ _ _ _ h
  | ignored _ _ _ _ _ h | acknowledge _ _ h | locked _ _ _ _ _ h | illegal _ _ _ h => simp [h]

/-- No step changes the parameters (00_scope.md R10). -/
theorem Transition.config (h : Transition s t) : t.config = s.config := by
  cases h with
  | write => exact State.writeReg_config ..
  | command _ _ _ _ _ _ he => exact (exec_effect he).config
  | _ => rfl

theorem step_idle (h : s.bus.pending = []) : step s = .next s := by
  rw [step, nextEvent, h]

theorem step_next (s : State) : ∃ t, step s = .next t := by
  cases h : s.bus.pending with
  | nil => exact ⟨s, step_idle h⟩
  | cons e rest =>
    rw [step, nextEvent, h]
    exact handleEvent_next e _

/-- Settles O36: every event completes, and of the transitions of a step none but the event itself
touches the events still to come. -/
theorem everyStepAnswersANextState : Obligations.EveryStepAnswersANextState := by
  unfold Obligations.EveryStepAnswersANextState
  intro s
  obtain ⟨t, ht⟩ := step_next s
  have hstep := step_cases ht
  refine ⟨t, ht, ?_, ?_, hstep.config⟩
  · intro hidle
    cases ht.symm.trans (step_idle hidle)
    rfl
  · intro e rest h
    rw [hstep.pending, h, List.tail_cons]

end Sys2Proof.Machine
end

section
/-! SUPPORT. The result codes: the code each command word ends with, and its cause in the order of
priority (60_exceptions.md R300, R303). -/

namespace Sys2Proof.Machine

variable {s t u : State}

/-! ### The code of a command word -/

/-- The code a decode ends with (42_packetdecoder.md R182). -/
def State.recordCode (s : State) : ResultCode :=
  if s.rlen ≠ 42#8 then .wrongLength
  else if s.plausibility (decodedFields s.rbuf) ≠ 0#4 then .implausible
  else .ok

/-- The code a command ends with, its causes in the order of 60_exceptions.md R303. -/
def State.commandCode (s : State) : Instr → ResultCode
  | .curReset => if 42 < s.rlen.toNat then .operandRange else .ok
  | .curRead n =>
    if 32 < n then .operandRange
    else if 8 * s.curLen.val < s.curPos.val + n then .outOfRange
    else .ok
  | .sext b => if b = 0 ∨ 32 < b ∨ 2 ^ b ≤ s.sxIn.toNat then .operandRange else .ok
  | .decode => s.recordCode
  | .decodePush =>
    if s.passActive = false then .noPass
    else if s.seqIdx = 0xFFFFFFFF#32 then .seqOverflow
    else s.recordCode
  | .filterPush =>
    if s.passActive = false then .noPass
    else if s.pktValid = false ∨ s.pktPushed = true then .notValid
    else if s.seqIdx = 0xFFFFFFFF#32 then .seqOverflow
    else .ok
  | .nop | .filterBegin | .filterEnd | .softReset => .ok

/-- The code a command word ends with (30_encoding.md R113). -/
def State.wordCode (s : State) : Except DecodeError Instr → ResultCode
  | .error _ => .illegalCmd
  | .ok i => s.commandCode i

/-! ### Commands end with their code -/

/-- Command i ends at s with its code, and sets the ERR bit of the code and no other
(45_control.md R273). -/
def State.EndsWithCode (s : State) (i : Instr) : Prop :=
  ∃ t, exec i s = .next t ∧ t.result = s.commandCode i ∧
    t.err = s.err ||| (s.commandCode i).errMask

section
variable {i : Instr} {c : ResultCode}

theorem endsWithCode_of_raise (he : exec i s = .next (u.raise c)) (hc : s.commandCode i = c)
    (hu : u.err = s.err) : s.EndsWithCode i := by
  subst hc
  exact ⟨_, he, rfl, by rw [State.raise_err, hu]⟩

theorem endsWithCode_of_ok (he : exec i s = .next t) (hc : s.commandCode i = .ok)
    (hr : t.result = .ok) (ht : t.err = s.err) : s.EndsWithCode i := by
  refine ⟨t, he, hr.trans hc.symm, ?_⟩
  rw [ht, hc]
  exact BitVec.or_zero.symm

end

/-- The ends of each command, in the order of its checks; SOFT_RESET alone clears ERR
(60_exceptions.md R303, 45_control.md R272). -/
theorem endsWithCode {i : Instr} (hi : i ≠ .softReset) (s : State) : s.EndsWithCode i := by
  cases i with
  | nop | filterBegin | filterEnd => exact endsWithCode_of_ok rfl rfl rfl rfl
  | softReset => exact absurd rfl hi
  | curReset =>
    obtain ⟨h, he⟩ | ⟨h, he⟩ := execCurReset_cases s
    · exact endsWithCode_of_raise he (if_pos h) rfl
    · exact endsWithCode_of_ok he (if_neg h.not_gt) rfl rfl
  | curRead n =>
    obtain ⟨h, he⟩ | ⟨hn, h, he⟩ | ⟨hn, h, he⟩ := execCurRead_cases n s
    · exact endsWithCode_of_raise he (if_pos h) rfl
    · exact endsWithCode_of_raise he ((if_neg hn.not_gt).trans (if_pos h)) rfl
    · exact endsWithCode_of_ok he ((if_neg hn.not_gt).trans (if_neg h.not_gt)) rfl rfl
  | sext b =>
    obtain ⟨h, he⟩ | ⟨hb, hb', h, he⟩ := execSext_cases b s
    · exact endsWithCode_of_raise he (if_pos h) rfl
    · exact endsWithCode_of_ok he (if_neg (not_operandRange_of_fits hb hb' h)) rfl rfl
  | decode =>
    obtain ⟨h, he⟩ | ⟨hl, h, he⟩ | ⟨hl, h, he⟩ := execDecode_cases s
    · exact endsWithCode_of_raise he (by simp [State.commandCode, State.recordCode, h]) rfl
    · exact endsWithCode_of_raise he (by simp [State.commandCode, State.recordCode, hl, h]) rfl
    · exact endsWithCode_of_ok he (by simp [State.commandCode, State.recordCode, hl, h]) rfl rfl
  | decodePush =>
    obtain ⟨h, he⟩ | ⟨hp, h, he⟩ | ⟨hp, hq, h, he⟩ | ⟨hp, hq, hl, h, he⟩ | ⟨hp, hq, hl, h, he⟩ :=
      execDecodePush_cases s
    · exact endsWithCode_of_raise he (by simp [State.commandCode, h]) rfl
    · exact endsWithCode_of_raise he (by simp [State.commandCode, hp, h]) rfl
    · exact endsWithCode_of_raise he
        (by simp [State.commandCode, State.recordCode, hp, hq, h]) rfl
    · exact endsWithCode_of_raise he
        (by simp [State.commandCode, State.recordCode, hp, hq, hl, h]) rfl
    · exact endsWithCode_of_ok he
        (by simp [State.commandCode, State.recordCode, hp, hq, hl, h]) rfl (State.pushBody_err _)
  | filterPush =>
    obtain ⟨h, he⟩ | ⟨hp, h, he⟩ | ⟨hp, hv, hu, h, he⟩ | ⟨hp, hv, hu, h, he⟩ :=
      execFilterPush_cases s
    · exact endsWithCode_of_raise he (by simp [State.commandCode, h]) rfl
    · exact endsWithCode_of_raise he (by simp [State.commandCode, hp, h]) rfl
    · exact endsWithCode_of_raise he (by simp [State.commandCode, hp, hv, hu, h]) rfl
    · exact endsWithCode_of_ok he (by simp [State.commandCode, hp, hv, hu, h]) rfl s.pushBody_err

/-- Every command word ends with its code (30_encoding.md R113). -/
theorem executeCommand_end (w : Word) (s : State) :
    ∃ t, executeCommand w s = .next t ∧ t.result = s.wordCode (decode w) ∧
      (decode w = .ok .softReset → t.err = 0#10) ∧
      (decode w ≠ .ok .softReset → t.err = s.err ||| t.result.errMask) := by
  unfold executeCommand
  cases decode w with
  | error e => exact ⟨_, rfl, rfl, by simp, fun _ => rfl⟩
  | ok i =>
    by_cases hi : i = .softReset
    · subst hi
      exact ⟨_, exec_softReset s, rfl, fun _ => rfl, fun h => absurd rfl h⟩
    · obtain ⟨t, he, hr, ht⟩ := endsWithCode hi s
      exact ⟨t, he, hr, fun h => absurd (Except.ok.inj h) hi, fun _ => by rw [ht, hr]⟩

/-! ### The code as RESULT reads it -/

/-- RESULT reads a code exactly when it holds it: the codes are distinct (60_exceptions.md R300). -/
theorem readReg_result_eq_iff (c : ResultCode) :
    t.readReg .result = c.code.setWidth 32 ↔ t.result = c := by
  rw [State.readReg]
  cases t.result <;> cases c <;> decide

theorem readReg_result_toNat_le (t : State) : (t.readReg .result).toNat ≤ 8 := by
  rw [State.readReg]
  cases t.result <;> decide

/-- The ERR bit of a code c ≠ 0 is bit c − 1 (10_state.md R30). -/
theorem or_errMask_eq (e : BitVec 10) (t : State) :
    e ||| t.result.errMask = if t.readReg .result = 0#32 then e
      else e ||| BitVec.ofNat 10 (2 ^ ((t.readReg .result).toNat - 1)) := by
  rw [State.readReg]
  cases t.result with
  | ok => exact BitVec.or_zero
  | _ => rfl

/-! ### The table of causes (60_exceptions.md R300) -/

section
variable {i : Instr}

theorem recordCode_eq_wrongLength_iff : s.recordCode = .wrongLength ↔ s.rlen ≠ 42#8 := by
  simp [State.recordCode, ite_eq_iff]

theorem recordCode_eq_implausible_iff : s.recordCode = .implausible ↔
    s.rlen = 42#8 ∧ Terms.whyOf s (decodedFields s.rbuf) ≠ 0#4 := by
  simp [State.recordCode, ite_eq_iff, s.plausibility_eq_whyOf]

theorem commandCode_ne_illegalCmd : s.commandCode i ≠ .illegalCmd := by
  cases i <;> simp [State.commandCode, State.recordCode, ite_eq_iff]

theorem commandCode_eq_operandRange_iff : s.commandCode i = .operandRange ↔
    (i = .curReset ∧ 42 < s.rlen.toNat) ∨ (∃ n, i = .curRead n ∧ 32 < n) ∨
      ∃ b, i = .sext b ∧ (b = 0 ∨ 32 < b ∨ 2 ^ b ≤ s.sxIn.toNat) := by
  cases i with
  | curReset | curRead | sext => simp [State.commandCode, ite_eq_iff, -not_or]
  | _ => simp [State.commandCode, State.recordCode, ite_eq_iff]

theorem commandCode_eq_outOfRange_iff : s.commandCode i = .outOfRange ↔
    ∃ n, i = .curRead n ∧ n ≤ 32 ∧ 8 * s.curLen.val < s.curPos.val + n := by
  cases i with
  | curRead => simp [State.commandCode, ite_eq_iff]
  | _ => simp [State.commandCode, State.recordCode, ite_eq_iff]

theorem commandCode_eq_wrongLength_iff : s.commandCode i = .wrongLength ↔
    s.rlen ≠ 42#8 ∧
      (i = .decode ∨ i = .decodePush ∧ s.passActive = true ∧ s.seqIdx ≠ 0xFFFFFFFF#32) := by
  rw [← recordCode_eq_wrongLength_iff]
  cases i with
  | decode => simp [State.commandCode]
  | decodePush => simp [State.commandCode, ite_eq_iff, and_assoc, and_comm]
  | _ => simp [State.commandCode, ite_eq_iff]

theorem commandCode_eq_implausible_iff : s.commandCode i = .implausible ↔
    s.rlen = 42#8 ∧ Terms.whyOf s (decodedFields s.rbuf) ≠ 0#4 ∧
      (i = .decode ∨ i = .decodePush ∧ s.passActive = true ∧ s.seqIdx ≠ 0xFFFFFFFF#32) := by
  rw [← and_assoc, ← recordCode_eq_implausible_iff]
  cases i with
  | decode => simp [State.commandCode]
  | decodePush => simp [State.commandCode, ite_eq_iff, and_assoc, and_comm]
  | _ => simp [State.commandCode, ite_eq_iff]

theorem commandCode_eq_noPass_iff : s.commandCode i = .noPass ↔
    s.passActive = false ∧ (i = .filterPush ∨ i = .decodePush) := by
  cases i with
  | filterPush => simp [State.commandCode, ite_eq_iff]
  | decodePush => simp [State.commandCode, State.recordCode, ite_eq_iff]
  | _ => simp [State.commandCode, State.recordCode, ite_eq_iff]

theorem commandCode_eq_notValid_iff : s.commandCode i = .notValid ↔
    i = .filterPush ∧ s.passActive = true ∧ (s.pktValid = false ∨ s.pktPushed = true) := by
  cases i with
  | filterPush => simp [State.commandCode, ite_eq_iff, -not_or]
  | _ => simp [State.commandCode, State.recordCode, ite_eq_iff]

theorem commandCode_eq_seqOverflow_iff : s.commandCode i = .seqOverflow ↔
    s.passActive = true ∧ s.seqIdx = 0xFFFFFFFF#32 ∧
      (i = .filterPush ∧ s.pktValid = true ∧ s.pktPushed = false ∨ i = .decodePush) := by
  cases i with
  | filterPush => simp [State.commandCode, ite_eq_iff, and_assoc, and_comm]
  | decodePush => simp [State.commandCode, State.recordCode, ite_eq_iff]
  | _ => simp [State.commandCode, State.recordCode, ite_eq_iff]

end

/-- Settles O34: a command word ends with its code, and each code has its one cause. -/
theorem everyResultCodeHasItsCauseAndErrBit : Obligations.EveryResultCodeHasItsCauseAndErrBit := by
  unfold Obligations.EveryResultCodeHasItsCauseAndErrBit
  intro w s
  obtain ⟨t, he, hr, hreset, hkept⟩ := executeCommand_end w s
  have code (c : ResultCode) :
      t.readReg .result = c.code.setWidth 32 ↔ s.wordCode (decode w) = c := by
    rw [readReg_result_eq_iff, hr]
  refine ⟨t, he, fun hd => ⟨(code .ok).mpr (by rw [hd]; rfl), hreset hd⟩,
    fun hd => (hkept hd).trans (or_errMask_eq s.err t), ?_⟩
  cases hd : decode w with
  | error e =>
    have hread : t.readReg .result = 1#32 := (code .illegalCmd).mpr (by rw [hd]; rfl)
    simp [hread]
  | ok i =>
    rw [hd, State.wordCode] at code
    simp only [Except.ok.injEq]
    exact ⟨(code .illegalCmd).trans (by simp [commandCode_ne_illegalCmd]),
      (code .operandRange).trans commandCode_eq_operandRange_iff,
      (code .outOfRange).trans commandCode_eq_outOfRange_iff,
      (code .wrongLength).trans commandCode_eq_wrongLength_iff,
      (code .implausible).trans commandCode_eq_implausible_iff,
      (code .noPass).trans commandCode_eq_noPass_iff,
      (code .notValid).trans commandCode_eq_notValid_iff,
      (code .seqOverflow).trans commandCode_eq_seqOverflow_iff,
      readReg_result_toNat_le t⟩

end Sys2Proof.Machine
end
